-- ==== Sys2Proof/Word.lean ====
section
/-! DEFINITION. The word types of the engine (00_scope.md R7, R8): bytes, 16-bit words, 24-bit addresses. -/

namespace Sys2Proof

/-- A byte, the smallest addressable unit (R7: byte size 8 bits). -/
abbrev Byte := BitVec 8

/-- A 16-bit quantity: `A`, `X`, `Y`, `SP`, `PC`, `D`, offsets inside a bank (R7, R20). -/
abbrev Word := BitVec 16

/-- A 24-bit address `{bank, offset}` (R7: 256 banks of 65536 bytes; R61). -/
abbrev Addr := BitVec 24

end Sys2Proof
end

