-- ==== Sys2Proof/Syntax.lean ====
section
/-! DEFINITION. The instruction set as syntax (30_encoding.md R92, R96; opcode_table.json): one constructor of `Instr`
for every row of the opcode table. Rows with operand bytes stand first and one-byte rows last: Lean's compiler takes at
most 244 constructors that carry data, so the order is by shape and, inside each part, by opcode. -/

namespace Sys2Proof

/-- An immediate whose width a flag chooses (R92 formats IMMM, IMMX): one byte or two. -/
inductive Imm
  | b8 (v : Byte)
  | b16 (v : Word)
  deriving DecidableEq, Repr

/-- The fifteen operand forms that name a byte of memory (R92, 40_addressing_modes.md R122 to R136). -/
inductive DataMode
  /-- R122, `dp`. -/
  | dp (dp : Byte)
  /-- R123, `dp,X`. -/
  | dpX (dp : Byte)
  /-- R124, `dp,Y`. -/
  | dpY (dp : Byte)
  /-- R130, `(dp)`. -/
  | idp (dp : Byte)
  /-- R131, `(dp,X)`. -/
  | idpX (dp : Byte)
  /-- R132, `(dp),Y`. -/
  | idpY (dp : Byte)
  /-- R133, `[dp]`. -/
  | ildp (dp : Byte)
  /-- R134, `[dp],Y`. -/
  | ildpY (dp : Byte)
  /-- R135, `sr,S`. -/
  | sr (sr : Byte)
  /-- R136, `(sr,S),Y`. -/
  | isrY (sr : Byte)
  /-- R125, `abs`. -/
  | abs (addr : Word)
  /-- R126, `abs,X`. -/
  | absX (addr : Word)
  /-- R127, `abs,Y`. -/
  | absY (addr : Word)
  /-- R128, `long`. -/
  | long (long : Addr)
  /-- R129, `long,X`. -/
  | longX (long : Addr)
  deriving DecidableEq, Repr

/-- The operand of an instruction with its fields, in the shapes of R92. `data` gathers the fifteen memory forms. -/
inductive Operand
  | imp
  | acc
  | immM (imm : Imm)
  | immX (imm : Imm)
  | imm8 (mask : Byte)
  | imm16 (value : Word)
  | sig (sig : Byte)
  | data (mode : DataMode)
  | rel8 (disp : Byte)
  | rel16 (disp : Word)
  | jabs (addr : Word)
  | jlong (long : Addr)
  | jiabs (addr : Word)
  | jiabsx (addr : Word)
  | jilabs (addr : Word)
  | blk (dst src : Byte)
  deriving DecidableEq, Repr

/-- The source operand of a reading instruction (R160, `Operand(w)`): an immediate, or a place in memory. -/
inductive Source
  | imm (v : Imm)
  | mem (mode : DataMode)
  deriving DecidableEq, Repr

/-- The place a read-modify-write instruction works on (43_shift_rotate.md R225): the accumulator, or memory. -/
inductive Target
  | acc
  | mem (mode : DataMode)
  deriving DecidableEq, Repr

/-- The thirty operand formats of R92, by name. -/
inductive Format
  | IMP | ACC | IMMM | IMMX | IMM8 | IMM16 | SIG | DP | DPX | DPY
  | IDP | IDPX | IDPY | ILDP | ILDPY | SR | ISRY | ABS | ABSX | ABSY
  | LONG | LONGX | REL8 | REL16 | JABS | JLONG | JIABS | JIABSX | JILABS | BLK
  deriving DecidableEq, Repr

/-- The 92 mnemonics of R96. -/
inductive Mnemonic
  | BRK | ORA | COP | TSB | ASL | PHP | PHD | BPL | TRB | CLC | INC | TCS | JSR | AND | JSL | BIT
  | ROL | PLP | PLD | BMI | SEC | DEC | TSC | RTI | EOR | WDM | MVP | LSR | PHA | PHK | JMP | BVC
  | MVN | CLI | PHY | TCD | JML | RTS | ADC | PER | STZ | ROR | PLA | RTL | BVS | SEI | PLY | TDC
  | BRA | STA | BRL | STY | STX | DEY | TXA | PHB | BCC | TYA | TXS | TXY | LDY | LDA | LDX | TAY
  | TAX | PLB | BCS | CLV | TSX | TYX | CPY | CMP | REP | INY | DEX | WAI | BNE | PEI | CLD | PHX
  | STP | CPX | SBC | SEP | INX | NOP | XBA | BEQ | PEA | SED | PLX | XCE
  deriving DecidableEq, Repr

/-- The instructions: one constructor per row of the opcode table (R96). -/
inductive Instr
  /-- `$00` BRK #sig (R355). -/
  | brk (sig : Byte)
  /-- `$01` ORA (dp,X) (R201). -/
  | oraIDpX (dp : Byte)
  /-- `$02` COP #sig (R356). -/
  | cop (sig : Byte)
  /-- `$03` ORA sr,S (R201). -/
  | oraSr (sr : Byte)
  /-- `$04` TSB dp (R245). -/
  | tsbDp (dp : Byte)
  /-- `$05` ORA dp (R201). -/
  | oraDp (dp : Byte)
  /-- `$06` ASL dp (R221). -/
  | aslDp (dp : Byte)
  /-- `$07` ORA [dp] (R201). -/
  | oraILDp (dp : Byte)
  /-- `$09` ORA #m (R201). -/
  | oraImm (imm : Imm)
  /-- `$0C` TSB abs (R245). -/
  | tsbAbs (addr : Word)
  /-- `$0D` ORA abs (R201). -/
  | oraAbs (addr : Word)
  /-- `$0E` ASL abs (R221). -/
  | aslAbs (addr : Word)
  /-- `$0F` ORA long (R201). -/
  | oraLong (long : Addr)
  /-- `$10` BPL rel8 (R282). -/
  | bpl (disp : Byte)
  /-- `$11` ORA (dp),Y (R201). -/
  | oraIDpY (dp : Byte)
  /-- `$12` ORA (dp) (R201). -/
  | oraIDp (dp : Byte)
  /-- `$13` ORA (sr,S),Y (R201). -/
  | oraISrY (sr : Byte)
  /-- `$14` TRB dp (R246). -/
  | trbDp (dp : Byte)
  /-- `$15` ORA dp,X (R201). -/
  | oraDpX (dp : Byte)
  /-- `$16` ASL dp,X (R221). -/
  | aslDpX (dp : Byte)
  /-- `$17` ORA [dp],Y (R201). -/
  | oraILDpY (dp : Byte)
  /-- `$19` ORA abs,Y (R201). -/
  | oraAbsY (addr : Word)
  /-- `$1C` TRB abs (R246). -/
  | trbAbs (addr : Word)
  /-- `$1D` ORA abs,X (R201). -/
  | oraAbsX (addr : Word)
  /-- `$1E` ASL abs,X (R221). -/
  | aslAbsX (addr : Word)
  /-- `$1F` ORA long,X (R201). -/
  | oraLongX (long : Addr)
  /-- `$20` JSR abs (R294). -/
  | jsrAbs (addr : Word)
  /-- `$21` AND (dp,X) (R202). -/
  | andIDpX (dp : Byte)
  /-- `$22` JSL long (R295). -/
  | jsl (long : Addr)
  /-- `$23` AND sr,S (R202). -/
  | andSr (sr : Byte)
  /-- `$24` BIT dp (R244). -/
  | bitDp (dp : Byte)
  /-- `$25` AND dp (R202). -/
  | andDp (dp : Byte)
  /-- `$26` ROL dp (R223). -/
  | rolDp (dp : Byte)
  /-- `$27` AND [dp] (R202). -/
  | andILDp (dp : Byte)
  /-- `$29` AND #m (R202). -/
  | andImm (imm : Imm)
  /-- `$2C` BIT abs (R244). -/
  | bitAbs (addr : Word)
  /-- `$2D` AND abs (R202). -/
  | andAbs (addr : Word)
  /-- `$2E` ROL abs (R223). -/
  | rolAbs (addr : Word)
  /-- `$2F` AND long (R202). -/
  | andLong (long : Addr)
  /-- `$30` BMI rel8 (R283). -/
  | bmi (disp : Byte)
  /-- `$31` AND (dp),Y (R202). -/
  | andIDpY (dp : Byte)
  /-- `$32` AND (dp) (R202). -/
  | andIDp (dp : Byte)
  /-- `$33` AND (sr,S),Y (R202). -/
  | andISrY (sr : Byte)
  /-- `$34` BIT dp,X (R244). -/
  | bitDpX (dp : Byte)
  /-- `$35` AND dp,X (R202). -/
  | andDpX (dp : Byte)
  /-- `$36` ROL dp,X (R223). -/
  | rolDpX (dp : Byte)
  /-- `$37` AND [dp],Y (R202). -/
  | andILDpY (dp : Byte)
  /-- `$39` AND abs,Y (R202). -/
  | andAbsY (addr : Word)
  /-- `$3C` BIT abs,X (R244). -/
  | bitAbsX (addr : Word)
  /-- `$3D` AND abs,X (R202). -/
  | andAbsX (addr : Word)
  /-- `$3E` ROL abs,X (R223). -/
  | rolAbsX (addr : Word)
  /-- `$3F` AND long,X (R202). -/
  | andLongX (long : Addr)
  /-- `$41` EOR (dp,X) (R203). -/
  | eorIDpX (dp : Byte)
  /-- `$42` WDM #sig (R352). -/
  | wdm (sig : Byte)
  /-- `$43` EOR sr,S (R203). -/
  | eorSr (sr : Byte)
  /-- `$44` MVP src,dst (R374). -/
  | mvp (dst : Byte) (src : Byte)
  /-- `$45` EOR dp (R203). -/
  | eorDp (dp : Byte)
  /-- `$46` LSR dp (R222). -/
  | lsrDp (dp : Byte)
  /-- `$47` EOR [dp] (R203). -/
  | eorILDp (dp : Byte)
  /-- `$49` EOR #m (R203). -/
  | eorImm (imm : Imm)
  /-- `$4C` JMP abs (R292). -/
  | jmpAbs (addr : Word)
  /-- `$4D` EOR abs (R203). -/
  | eorAbs (addr : Word)
  /-- `$4E` LSR abs (R222). -/
  | lsrAbs (addr : Word)
  /-- `$4F` EOR long (R203). -/
  | eorLong (long : Addr)
  /-- `$50` BVC rel8 (R284). -/
  | bvc (disp : Byte)
  /-- `$51` EOR (dp),Y (R203). -/
  | eorIDpY (dp : Byte)
  /-- `$52` EOR (dp) (R203). -/
  | eorIDp (dp : Byte)
  /-- `$53` EOR (sr,S),Y (R203). -/
  | eorISrY (sr : Byte)
  /-- `$54` MVN src,dst (R373). -/
  | mvn (dst : Byte) (src : Byte)
  /-- `$55` EOR dp,X (R203). -/
  | eorDpX (dp : Byte)
  /-- `$56` LSR dp,X (R222). -/
  | lsrDpX (dp : Byte)
  /-- `$57` EOR [dp],Y (R203). -/
  | eorILDpY (dp : Byte)
  /-- `$59` EOR abs,Y (R203). -/
  | eorAbsY (addr : Word)
  /-- `$5C` JML long (R293). -/
  | jmlLong (long : Addr)
  /-- `$5D` EOR abs,X (R203). -/
  | eorAbsX (addr : Word)
  /-- `$5E` LSR abs,X (R222). -/
  | lsrAbsX (addr : Word)
  /-- `$5F` EOR long,X (R203). -/
  | eorLongX (long : Addr)
  /-- `$61` ADC (dp,X) (R204). -/
  | adcIDpX (dp : Byte)
  /-- `$62` PER rel16 (R326). -/
  | per (disp : Word)
  /-- `$63` ADC sr,S (R204). -/
  | adcSr (sr : Byte)
  /-- `$64` STZ dp (R167). -/
  | stzDp (dp : Byte)
  /-- `$65` ADC dp (R204). -/
  | adcDp (dp : Byte)
  /-- `$66` ROR dp (R224). -/
  | rorDp (dp : Byte)
  /-- `$67` ADC [dp] (R204). -/
  | adcILDp (dp : Byte)
  /-- `$69` ADC #m (R204). -/
  | adcImm (imm : Imm)
  /-- `$6C` JMP (abs) (R292). -/
  | jmpIAbs (addr : Word)
  /-- `$6D` ADC abs (R204). -/
  | adcAbs (addr : Word)
  /-- `$6E` ROR abs (R224). -/
  | rorAbs (addr : Word)
  /-- `$6F` ADC long (R204). -/
  | adcLong (long : Addr)
  /-- `$70` BVS rel8 (R285). -/
  | bvs (disp : Byte)
  /-- `$71` ADC (dp),Y (R204). -/
  | adcIDpY (dp : Byte)
  /-- `$72` ADC (dp) (R204). -/
  | adcIDp (dp : Byte)
  /-- `$73` ADC (sr,S),Y (R204). -/
  | adcISrY (sr : Byte)
  /-- `$74` STZ dp,X (R167). -/
  | stzDpX (dp : Byte)
  /-- `$75` ADC dp,X (R204). -/
  | adcDpX (dp : Byte)
  /-- `$76` ROR dp,X (R224). -/
  | rorDpX (dp : Byte)
  /-- `$77` ADC [dp],Y (R204). -/
  | adcILDpY (dp : Byte)
  /-- `$79` ADC abs,Y (R204). -/
  | adcAbsY (addr : Word)
  /-- `$7C` JMP (abs,X) (R292). -/
  | jmpIAbsX (addr : Word)
  /-- `$7D` ADC abs,X (R204). -/
  | adcAbsX (addr : Word)
  /-- `$7E` ROR abs,X (R224). -/
  | rorAbsX (addr : Word)
  /-- `$7F` ADC long,X (R204). -/
  | adcLongX (long : Addr)
  /-- `$80` BRA rel8 (R290). -/
  | bra (disp : Byte)
  /-- `$81` STA (dp,X) (R164). -/
  | staIDpX (dp : Byte)
  /-- `$82` BRL rel16 (R291). -/
  | brl (disp : Word)
  /-- `$83` STA sr,S (R164). -/
  | staSr (sr : Byte)
  /-- `$84` STY dp (R166). -/
  | styDp (dp : Byte)
  /-- `$85` STA dp (R164). -/
  | staDp (dp : Byte)
  /-- `$86` STX dp (R165). -/
  | stxDp (dp : Byte)
  /-- `$87` STA [dp] (R164). -/
  | staILDp (dp : Byte)
  /-- `$89` BIT #m (R244). -/
  | bitImm (imm : Imm)
  /-- `$8C` STY abs (R166). -/
  | styAbs (addr : Word)
  /-- `$8D` STA abs (R164). -/
  | staAbs (addr : Word)
  /-- `$8E` STX abs (R165). -/
  | stxAbs (addr : Word)
  /-- `$8F` STA long (R164). -/
  | staLong (long : Addr)
  /-- `$90` BCC rel8 (R286). -/
  | bcc (disp : Byte)
  /-- `$91` STA (dp),Y (R164). -/
  | staIDpY (dp : Byte)
  /-- `$92` STA (dp) (R164). -/
  | staIDp (dp : Byte)
  /-- `$93` STA (sr,S),Y (R164). -/
  | staISrY (sr : Byte)
  /-- `$94` STY dp,X (R166). -/
  | styDpX (dp : Byte)
  /-- `$95` STA dp,X (R164). -/
  | staDpX (dp : Byte)
  /-- `$96` STX dp,Y (R165). -/
  | stxDpY (dp : Byte)
  /-- `$97` STA [dp],Y (R164). -/
  | staILDpY (dp : Byte)
  /-- `$99` STA abs,Y (R164). -/
  | staAbsY (addr : Word)
  /-- `$9C` STZ abs (R167). -/
  | stzAbs (addr : Word)
  /-- `$9D` STA abs,X (R164). -/
  | staAbsX (addr : Word)
  /-- `$9E` STZ abs,X (R167). -/
  | stzAbsX (addr : Word)
  /-- `$9F` STA long,X (R164). -/
  | staLongX (long : Addr)
  /-- `$A0` LDY #x (R163). -/
  | ldyImm (imm : Imm)
  /-- `$A1` LDA (dp,X) (R161). -/
  | ldaIDpX (dp : Byte)
  /-- `$A2` LDX #x (R162). -/
  | ldxImm (imm : Imm)
  /-- `$A3` LDA sr,S (R161). -/
  | ldaSr (sr : Byte)
  /-- `$A4` LDY dp (R163). -/
  | ldyDp (dp : Byte)
  /-- `$A5` LDA dp (R161). -/
  | ldaDp (dp : Byte)
  /-- `$A6` LDX dp (R162). -/
  | ldxDp (dp : Byte)
  /-- `$A7` LDA [dp] (R161). -/
  | ldaILDp (dp : Byte)
  /-- `$A9` LDA #m (R161). -/
  | ldaImm (imm : Imm)
  /-- `$AC` LDY abs (R163). -/
  | ldyAbs (addr : Word)
  /-- `$AD` LDA abs (R161). -/
  | ldaAbs (addr : Word)
  /-- `$AE` LDX abs (R162). -/
  | ldxAbs (addr : Word)
  /-- `$AF` LDA long (R161). -/
  | ldaLong (long : Addr)
  /-- `$B0` BCS rel8 (R287). -/
  | bcs (disp : Byte)
  /-- `$B1` LDA (dp),Y (R161). -/
  | ldaIDpY (dp : Byte)
  /-- `$B2` LDA (dp) (R161). -/
  | ldaIDp (dp : Byte)
  /-- `$B3` LDA (sr,S),Y (R161). -/
  | ldaISrY (sr : Byte)
  /-- `$B4` LDY dp,X (R163). -/
  | ldyDpX (dp : Byte)
  /-- `$B5` LDA dp,X (R161). -/
  | ldaDpX (dp : Byte)
  /-- `$B6` LDX dp,Y (R162). -/
  | ldxDpY (dp : Byte)
  /-- `$B7` LDA [dp],Y (R161). -/
  | ldaILDpY (dp : Byte)
  /-- `$B9` LDA abs,Y (R161). -/
  | ldaAbsY (addr : Word)
  /-- `$BC` LDY abs,X (R163). -/
  | ldyAbsX (addr : Word)
  /-- `$BD` LDA abs,X (R161). -/
  | ldaAbsX (addr : Word)
  /-- `$BE` LDX abs,Y (R162). -/
  | ldxAbsY (addr : Word)
  /-- `$BF` LDA long,X (R161). -/
  | ldaLongX (long : Addr)
  /-- `$C0` CPY #x (R243). -/
  | cpyImm (imm : Imm)
  /-- `$C1` CMP (dp,X) (R241). -/
  | cmpIDpX (dp : Byte)
  /-- `$C2` REP #i8 (R348). -/
  | rep (mask : Byte)
  /-- `$C3` CMP sr,S (R241). -/
  | cmpSr (sr : Byte)
  /-- `$C4` CPY dp (R243). -/
  | cpyDp (dp : Byte)
  /-- `$C5` CMP dp (R241). -/
  | cmpDp (dp : Byte)
  /-- `$C6` DEC dp (R262). -/
  | decDp (dp : Byte)
  /-- `$C7` CMP [dp] (R241). -/
  | cmpILDp (dp : Byte)
  /-- `$C9` CMP #m (R241). -/
  | cmpImm (imm : Imm)
  /-- `$CC` CPY abs (R243). -/
  | cpyAbs (addr : Word)
  /-- `$CD` CMP abs (R241). -/
  | cmpAbs (addr : Word)
  /-- `$CE` DEC abs (R262). -/
  | decAbs (addr : Word)
  /-- `$CF` CMP long (R241). -/
  | cmpLong (long : Addr)
  /-- `$D0` BNE rel8 (R288). -/
  | bne (disp : Byte)
  /-- `$D1` CMP (dp),Y (R241). -/
  | cmpIDpY (dp : Byte)
  /-- `$D2` CMP (dp) (R241). -/
  | cmpIDp (dp : Byte)
  /-- `$D3` CMP (sr,S),Y (R241). -/
  | cmpISrY (sr : Byte)
  /-- `$D4` PEI (dp) (R325). -/
  | pei (dp : Byte)
  /-- `$D5` CMP dp,X (R241). -/
  | cmpDpX (dp : Byte)
  /-- `$D6` DEC dp,X (R262). -/
  | decDpX (dp : Byte)
  /-- `$D7` CMP [dp],Y (R241). -/
  | cmpILDpY (dp : Byte)
  /-- `$D9` CMP abs,Y (R241). -/
  | cmpAbsY (addr : Word)
  /-- `$DC` JML [abs] (R293). -/
  | jmlILAbs (addr : Word)
  /-- `$DD` CMP abs,X (R241). -/
  | cmpAbsX (addr : Word)
  /-- `$DE` DEC abs,X (R262). -/
  | decAbsX (addr : Word)
  /-- `$DF` CMP long,X (R241). -/
  | cmpLongX (long : Addr)
  /-- `$E0` CPX #x (R242). -/
  | cpxImm (imm : Imm)
  /-- `$E1` SBC (dp,X) (R205). -/
  | sbcIDpX (dp : Byte)
  /-- `$E2` SEP #i8 (R349). -/
  | sep (mask : Byte)
  /-- `$E3` SBC sr,S (R205). -/
  | sbcSr (sr : Byte)
  /-- `$E4` CPX dp (R242). -/
  | cpxDp (dp : Byte)
  /-- `$E5` SBC dp (R205). -/
  | sbcDp (dp : Byte)
  /-- `$E6` INC dp (R261). -/
  | incDp (dp : Byte)
  /-- `$E7` SBC [dp] (R205). -/
  | sbcILDp (dp : Byte)
  /-- `$E9` SBC #m (R205). -/
  | sbcImm (imm : Imm)
  /-- `$EC` CPX abs (R242). -/
  | cpxAbs (addr : Word)
  /-- `$ED` SBC abs (R205). -/
  | sbcAbs (addr : Word)
  /-- `$EE` INC abs (R261). -/
  | incAbs (addr : Word)
  /-- `$EF` SBC long (R205). -/
  | sbcLong (long : Addr)
  /-- `$F0` BEQ rel8 (R289). -/
  | beq (disp : Byte)
  /-- `$F1` SBC (dp),Y (R205). -/
  | sbcIDpY (dp : Byte)
  /-- `$F2` SBC (dp) (R205). -/
  | sbcIDp (dp : Byte)
  /-- `$F3` SBC (sr,S),Y (R205). -/
  | sbcISrY (sr : Byte)
  /-- `$F4` PEA abs (R324). -/
  | pea (value : Word)
  /-- `$F5` SBC dp,X (R205). -/
  | sbcDpX (dp : Byte)
  /-- `$F6` INC dp,X (R261). -/
  | incDpX (dp : Byte)
  /-- `$F7` SBC [dp],Y (R205). -/
  | sbcILDpY (dp : Byte)
  /-- `$F9` SBC abs,Y (R205). -/
  | sbcAbsY (addr : Word)
  /-- `$FC` JSR (abs,X) (R294). -/
  | jsrIAbsX (addr : Word)
  /-- `$FD` SBC abs,X (R205). -/
  | sbcAbsX (addr : Word)
  /-- `$FE` INC abs,X (R261). -/
  | incAbsX (addr : Word)
  /-- `$FF` SBC long,X (R205). -/
  | sbcLongX (long : Addr)
  /-- `$08` PHP (R314). -/
  | php
  /-- `$0A` ASL A (R221). -/
  | aslAcc
  /-- `$0B` PHD (R316). -/
  | phd
  /-- `$18` CLC (R341). -/
  | clc
  /-- `$1A` INC A (R261). -/
  | incAcc
  /-- `$1B` TCS (R181). -/
  | tcs
  /-- `$28` PLP (R321). -/
  | plp
  /-- `$2A` ROL A (R223). -/
  | rolAcc
  /-- `$2B` PLD (R323). -/
  | pld
  /-- `$38` SEC (R342). -/
  | sec
  /-- `$3A` DEC A (R262). -/
  | decAcc
  /-- `$3B` TSC (R183). -/
  | tsc
  /-- `$40` RTI (R357). -/
  | rti
  /-- `$48` PHA (R311). -/
  | pha
  /-- `$4A` LSR A (R222). -/
  | lsrAcc
  /-- `$4B` PHK (R317). -/
  | phk
  /-- `$58` CLI (R343). -/
  | cli
  /-- `$5A` PHY (R313). -/
  | phy
  /-- `$5B` TCD (R180). -/
  | tcd
  /-- `$60` RTS (R296). -/
  | rts
  /-- `$68` PLA (R318). -/
  | pla
  /-- `$6A` ROR A (R224). -/
  | rorAcc
  /-- `$6B` RTL (R297). -/
  | rtl
  /-- `$78` SEI (R344). -/
  | sei
  /-- `$7A` PLY (R320). -/
  | ply
  /-- `$7B` TDC (R182). -/
  | tdc
  /-- `$88` DEY (R266). -/
  | dey
  /-- `$8A` TXA (R173). -/
  | txa
  /-- `$8B` PHB (R315). -/
  | phb
  /-- `$98` TYA (R174). -/
  | tya
  /-- `$9A` TXS (R176). -/
  | txs
  /-- `$9B` TXY (R177). -/
  | txy
  /-- `$A8` TAY (R172). -/
  | tay
  /-- `$AA` TAX (R171). -/
  | tax
  /-- `$AB` PLB (R322). -/
  | plb
  /-- `$B8` CLV (R347). -/
  | clv
  /-- `$BA` TSX (R175). -/
  | tsx
  /-- `$BB` TYX (R178). -/
  | tyx
  /-- `$C8` INY (R264). -/
  | iny
  /-- `$CA` DEX (R265). -/
  | dex
  /-- `$CB` WAI (R353). -/
  | wai
  /-- `$D8` CLD (R345). -/
  | cld
  /-- `$DA` PHX (R312). -/
  | phx
  /-- `$DB` STP (R354). -/
  | stp
  /-- `$E8` INX (R263). -/
  | inx
  /-- `$EA` NOP (R351). -/
  | nop
  /-- `$EB` XBA (R184). -/
  | xba
  /-- `$F8` SED (R346). -/
  | sed
  /-- `$FA` PLX (R319). -/
  | plx
  /-- `$FB` XCE (R350). -/
  | xce
  deriving DecidableEq, Repr

/-- The mnemonic of an instruction: its row's first column in opcode_table.json. -/
def Instr.mnemonic : Instr → Mnemonic
  | .brk _ => .BRK
  | .oraIDpX _ => .ORA
  | .cop _ => .COP
  | .oraSr _ => .ORA
  | .tsbDp _ => .TSB
  | .oraDp _ => .ORA
  | .aslDp _ => .ASL
  | .oraILDp _ => .ORA
  | .oraImm _ => .ORA
  | .tsbAbs _ => .TSB
  | .oraAbs _ => .ORA
  | .aslAbs _ => .ASL
  | .oraLong _ => .ORA
  | .bpl _ => .BPL
  | .oraIDpY _ => .ORA
  | .oraIDp _ => .ORA
  | .oraISrY _ => .ORA
  | .trbDp _ => .TRB
  | .oraDpX _ => .ORA
  | .aslDpX _ => .ASL
  | .oraILDpY _ => .ORA
  | .oraAbsY _ => .ORA
  | .trbAbs _ => .TRB
  | .oraAbsX _ => .ORA
  | .aslAbsX _ => .ASL
  | .oraLongX _ => .ORA
  | .jsrAbs _ => .JSR
  | .andIDpX _ => .AND
  | .jsl _ => .JSL
  | .andSr _ => .AND
  | .bitDp _ => .BIT
  | .andDp _ => .AND
  | .rolDp _ => .ROL
  | .andILDp _ => .AND
  | .andImm _ => .AND
  | .bitAbs _ => .BIT
  | .andAbs _ => .AND
  | .rolAbs _ => .ROL
  | .andLong _ => .AND
  | .bmi _ => .BMI
  | .andIDpY _ => .AND
  | .andIDp _ => .AND
  | .andISrY _ => .AND
  | .bitDpX _ => .BIT
  | .andDpX _ => .AND
  | .rolDpX _ => .ROL
  | .andILDpY _ => .AND
  | .andAbsY _ => .AND
  | .bitAbsX _ => .BIT
  | .andAbsX _ => .AND
  | .rolAbsX _ => .ROL
  | .andLongX _ => .AND
  | .eorIDpX _ => .EOR
  | .wdm _ => .WDM
  | .eorSr _ => .EOR
  | .mvp _ _ => .MVP
  | .eorDp _ => .EOR
  | .lsrDp _ => .LSR
  | .eorILDp _ => .EOR
  | .eorImm _ => .EOR
  | .jmpAbs _ => .JMP
  | .eorAbs _ => .EOR
  | .lsrAbs _ => .LSR
  | .eorLong _ => .EOR
  | .bvc _ => .BVC
  | .eorIDpY _ => .EOR
  | .eorIDp _ => .EOR
  | .eorISrY _ => .EOR
  | .mvn _ _ => .MVN
  | .eorDpX _ => .EOR
  | .lsrDpX _ => .LSR
  | .eorILDpY _ => .EOR
  | .eorAbsY _ => .EOR
  | .jmlLong _ => .JML
  | .eorAbsX _ => .EOR
  | .lsrAbsX _ => .LSR
  | .eorLongX _ => .EOR
  | .adcIDpX _ => .ADC
  | .per _ => .PER
  | .adcSr _ => .ADC
  | .stzDp _ => .STZ
  | .adcDp _ => .ADC
  | .rorDp _ => .ROR
  | .adcILDp _ => .ADC
  | .adcImm _ => .ADC
  | .jmpIAbs _ => .JMP
  | .adcAbs _ => .ADC
  | .rorAbs _ => .ROR
  | .adcLong _ => .ADC
  | .bvs _ => .BVS
  | .adcIDpY _ => .ADC
  | .adcIDp _ => .ADC
  | .adcISrY _ => .ADC
  | .stzDpX _ => .STZ
  | .adcDpX _ => .ADC
  | .rorDpX _ => .ROR
  | .adcILDpY _ => .ADC
  | .adcAbsY _ => .ADC
  | .jmpIAbsX _ => .JMP
  | .adcAbsX _ => .ADC
  | .rorAbsX _ => .ROR
  | .adcLongX _ => .ADC
  | .bra _ => .BRA
  | .staIDpX _ => .STA
  | .brl _ => .BRL
  | .staSr _ => .STA
  | .styDp _ => .STY
  | .staDp _ => .STA
  | .stxDp _ => .STX
  | .staILDp _ => .STA
  | .bitImm _ => .BIT
  | .styAbs _ => .STY
  | .staAbs _ => .STA
  | .stxAbs _ => .STX
  | .staLong _ => .STA
  | .bcc _ => .BCC
  | .staIDpY _ => .STA
  | .staIDp _ => .STA
  | .staISrY _ => .STA
  | .styDpX _ => .STY
  | .staDpX _ => .STA
  | .stxDpY _ => .STX
  | .staILDpY _ => .STA
  | .staAbsY _ => .STA
  | .stzAbs _ => .STZ
  | .staAbsX _ => .STA
  | .stzAbsX _ => .STZ
  | .staLongX _ => .STA
  | .ldyImm _ => .LDY
  | .ldaIDpX _ => .LDA
  | .ldxImm _ => .LDX
  | .ldaSr _ => .LDA
  | .ldyDp _ => .LDY
  | .ldaDp _ => .LDA
  | .ldxDp _ => .LDX
  | .ldaILDp _ => .LDA
  | .ldaImm _ => .LDA
  | .ldyAbs _ => .LDY
  | .ldaAbs _ => .LDA
  | .ldxAbs _ => .LDX
  | .ldaLong _ => .LDA
  | .bcs _ => .BCS
  | .ldaIDpY _ => .LDA
  | .ldaIDp _ => .LDA
  | .ldaISrY _ => .LDA
  | .ldyDpX _ => .LDY
  | .ldaDpX _ => .LDA
  | .ldxDpY _ => .LDX
  | .ldaILDpY _ => .LDA
  | .ldaAbsY _ => .LDA
  | .ldyAbsX _ => .LDY
  | .ldaAbsX _ => .LDA
  | .ldxAbsY _ => .LDX
  | .ldaLongX _ => .LDA
  | .cpyImm _ => .CPY
  | .cmpIDpX _ => .CMP
  | .rep _ => .REP
  | .cmpSr _ => .CMP
  | .cpyDp _ => .CPY
  | .cmpDp _ => .CMP
  | .decDp _ => .DEC
  | .cmpILDp _ => .CMP
  | .cmpImm _ => .CMP
  | .cpyAbs _ => .CPY
  | .cmpAbs _ => .CMP
  | .decAbs _ => .DEC
  | .cmpLong _ => .CMP
  | .bne _ => .BNE
  | .cmpIDpY _ => .CMP
  | .cmpIDp _ => .CMP
  | .cmpISrY _ => .CMP
  | .pei _ => .PEI
  | .cmpDpX _ => .CMP
  | .decDpX _ => .DEC
  | .cmpILDpY _ => .CMP
  | .cmpAbsY _ => .CMP
  | .jmlILAbs _ => .JML
  | .cmpAbsX _ => .CMP
  | .decAbsX _ => .DEC
  | .cmpLongX _ => .CMP
  | .cpxImm _ => .CPX
  | .sbcIDpX _ => .SBC
  | .sep _ => .SEP
  | .sbcSr _ => .SBC
  | .cpxDp _ => .CPX
  | .sbcDp _ => .SBC
  | .incDp _ => .INC
  | .sbcILDp _ => .SBC
  | .sbcImm _ => .SBC
  | .cpxAbs _ => .CPX
  | .sbcAbs _ => .SBC
  | .incAbs _ => .INC
  | .sbcLong _ => .SBC
  | .beq _ => .BEQ
  | .sbcIDpY _ => .SBC
  | .sbcIDp _ => .SBC
  | .sbcISrY _ => .SBC
  | .pea _ => .PEA
  | .sbcDpX _ => .SBC
  | .incDpX _ => .INC
  | .sbcILDpY _ => .SBC
  | .sbcAbsY _ => .SBC
  | .jsrIAbsX _ => .JSR
  | .sbcAbsX _ => .SBC
  | .incAbsX _ => .INC
  | .sbcLongX _ => .SBC
  | .php => .PHP
  | .aslAcc => .ASL
  | .phd => .PHD
  | .clc => .CLC
  | .incAcc => .INC
  | .tcs => .TCS
  | .plp => .PLP
  | .rolAcc => .ROL
  | .pld => .PLD
  | .sec => .SEC
  | .decAcc => .DEC
  | .tsc => .TSC
  | .rti => .RTI
  | .pha => .PHA
  | .lsrAcc => .LSR
  | .phk => .PHK
  | .cli => .CLI
  | .phy => .PHY
  | .tcd => .TCD
  | .rts => .RTS
  | .pla => .PLA
  | .rorAcc => .ROR
  | .rtl => .RTL
  | .sei => .SEI
  | .ply => .PLY
  | .tdc => .TDC
  | .dey => .DEY
  | .txa => .TXA
  | .phb => .PHB
  | .tya => .TYA
  | .txs => .TXS
  | .txy => .TXY
  | .tay => .TAY
  | .tax => .TAX
  | .plb => .PLB
  | .clv => .CLV
  | .tsx => .TSX
  | .tyx => .TYX
  | .iny => .INY
  | .dex => .DEX
  | .wai => .WAI
  | .cld => .CLD
  | .phx => .PHX
  | .stp => .STP
  | .inx => .INX
  | .nop => .NOP
  | .xba => .XBA
  | .sed => .SED
  | .plx => .PLX
  | .xce => .XCE

/-- The operand of an instruction, in the format its row names (R92). -/
def Instr.operand : Instr → Operand
  | .brk sig => .sig sig
  | .oraIDpX dp => .data (.idpX dp)
  | .cop sig => .sig sig
  | .oraSr sr => .data (.sr sr)
  | .tsbDp dp => .data (.dp dp)
  | .oraDp dp => .data (.dp dp)
  | .aslDp dp => .data (.dp dp)
  | .oraILDp dp => .data (.ildp dp)
  | .oraImm imm => .immM imm
  | .tsbAbs addr => .data (.abs addr)
  | .oraAbs addr => .data (.abs addr)
  | .aslAbs addr => .data (.abs addr)
  | .oraLong long => .data (.long long)
  | .bpl disp => .rel8 disp
  | .oraIDpY dp => .data (.idpY dp)
  | .oraIDp dp => .data (.idp dp)
  | .oraISrY sr => .data (.isrY sr)
  | .trbDp dp => .data (.dp dp)
  | .oraDpX dp => .data (.dpX dp)
  | .aslDpX dp => .data (.dpX dp)
  | .oraILDpY dp => .data (.ildpY dp)
  | .oraAbsY addr => .data (.absY addr)
  | .trbAbs addr => .data (.abs addr)
  | .oraAbsX addr => .data (.absX addr)
  | .aslAbsX addr => .data (.absX addr)
  | .oraLongX long => .data (.longX long)
  | .jsrAbs addr => .jabs addr
  | .andIDpX dp => .data (.idpX dp)
  | .jsl long => .jlong long
  | .andSr sr => .data (.sr sr)
  | .bitDp dp => .data (.dp dp)
  | .andDp dp => .data (.dp dp)
  | .rolDp dp => .data (.dp dp)
  | .andILDp dp => .data (.ildp dp)
  | .andImm imm => .immM imm
  | .bitAbs addr => .data (.abs addr)
  | .andAbs addr => .data (.abs addr)
  | .rolAbs addr => .data (.abs addr)
  | .andLong long => .data (.long long)
  | .bmi disp => .rel8 disp
  | .andIDpY dp => .data (.idpY dp)
  | .andIDp dp => .data (.idp dp)
  | .andISrY sr => .data (.isrY sr)
  | .bitDpX dp => .data (.dpX dp)
  | .andDpX dp => .data (.dpX dp)
  | .rolDpX dp => .data (.dpX dp)
  | .andILDpY dp => .data (.ildpY dp)
  | .andAbsY addr => .data (.absY addr)
  | .bitAbsX addr => .data (.absX addr)
  | .andAbsX addr => .data (.absX addr)
  | .rolAbsX addr => .data (.absX addr)
  | .andLongX long => .data (.longX long)
  | .eorIDpX dp => .data (.idpX dp)
  | .wdm sig => .sig sig
  | .eorSr sr => .data (.sr sr)
  | .mvp dst src => .blk dst src
  | .eorDp dp => .data (.dp dp)
  | .lsrDp dp => .data (.dp dp)
  | .eorILDp dp => .data (.ildp dp)
  | .eorImm imm => .immM imm
  | .jmpAbs addr => .jabs addr
  | .eorAbs addr => .data (.abs addr)
  | .lsrAbs addr => .data (.abs addr)
  | .eorLong long => .data (.long long)
  | .bvc disp => .rel8 disp
  | .eorIDpY dp => .data (.idpY dp)
  | .eorIDp dp => .data (.idp dp)
  | .eorISrY sr => .data (.isrY sr)
  | .mvn dst src => .blk dst src
  | .eorDpX dp => .data (.dpX dp)
  | .lsrDpX dp => .data (.dpX dp)
  | .eorILDpY dp => .data (.ildpY dp)
  | .eorAbsY addr => .data (.absY addr)
  | .jmlLong long => .jlong long
  | .eorAbsX addr => .data (.absX addr)
  | .lsrAbsX addr => .data (.absX addr)
  | .eorLongX long => .data (.longX long)
  | .adcIDpX dp => .data (.idpX dp)
  | .per disp => .rel16 disp
  | .adcSr sr => .data (.sr sr)
  | .stzDp dp => .data (.dp dp)
  | .adcDp dp => .data (.dp dp)
  | .rorDp dp => .data (.dp dp)
  | .adcILDp dp => .data (.ildp dp)
  | .adcImm imm => .immM imm
  | .jmpIAbs addr => .jiabs addr
  | .adcAbs addr => .data (.abs addr)
  | .rorAbs addr => .data (.abs addr)
  | .adcLong long => .data (.long long)
  | .bvs disp => .rel8 disp
  | .adcIDpY dp => .data (.idpY dp)
  | .adcIDp dp => .data (.idp dp)
  | .adcISrY sr => .data (.isrY sr)
  | .stzDpX dp => .data (.dpX dp)
  | .adcDpX dp => .data (.dpX dp)
  | .rorDpX dp => .data (.dpX dp)
  | .adcILDpY dp => .data (.ildpY dp)
  | .adcAbsY addr => .data (.absY addr)
  | .jmpIAbsX addr => .jiabsx addr
  | .adcAbsX addr => .data (.absX addr)
  | .rorAbsX addr => .data (.absX addr)
  | .adcLongX long => .data (.longX long)
  | .bra disp => .rel8 disp
  | .staIDpX dp => .data (.idpX dp)
  | .brl disp => .rel16 disp
  | .staSr sr => .data (.sr sr)
  | .styDp dp => .data (.dp dp)
  | .staDp dp => .data (.dp dp)
  | .stxDp dp => .data (.dp dp)
  | .staILDp dp => .data (.ildp dp)
  | .bitImm imm => .immM imm
  | .styAbs addr => .data (.abs addr)
  | .staAbs addr => .data (.abs addr)
  | .stxAbs addr => .data (.abs addr)
  | .staLong long => .data (.long long)
  | .bcc disp => .rel8 disp
  | .staIDpY dp => .data (.idpY dp)
  | .staIDp dp => .data (.idp dp)
  | .staISrY sr => .data (.isrY sr)
  | .styDpX dp => .data (.dpX dp)
  | .staDpX dp => .data (.dpX dp)
  | .stxDpY dp => .data (.dpY dp)
  | .staILDpY dp => .data (.ildpY dp)
  | .staAbsY addr => .data (.absY addr)
  | .stzAbs addr => .data (.abs addr)
  | .staAbsX addr => .data (.absX addr)
  | .stzAbsX addr => .data (.absX addr)
  | .staLongX long => .data (.longX long)
  | .ldyImm imm => .immX imm
  | .ldaIDpX dp => .data (.idpX dp)
  | .ldxImm imm => .immX imm
  | .ldaSr sr => .data (.sr sr)
  | .ldyDp dp => .data (.dp dp)
  | .ldaDp dp => .data (.dp dp)
  | .ldxDp dp => .data (.dp dp)
  | .ldaILDp dp => .data (.ildp dp)
  | .ldaImm imm => .immM imm
  | .ldyAbs addr => .data (.abs addr)
  | .ldaAbs addr => .data (.abs addr)
  | .ldxAbs addr => .data (.abs addr)
  | .ldaLong long => .data (.long long)
  | .bcs disp => .rel8 disp
  | .ldaIDpY dp => .data (.idpY dp)
  | .ldaIDp dp => .data (.idp dp)
  | .ldaISrY sr => .data (.isrY sr)
  | .ldyDpX dp => .data (.dpX dp)
  | .ldaDpX dp => .data (.dpX dp)
  | .ldxDpY dp => .data (.dpY dp)
  | .ldaILDpY dp => .data (.ildpY dp)
  | .ldaAbsY addr => .data (.absY addr)
  | .ldyAbsX addr => .data (.absX addr)
  | .ldaAbsX addr => .data (.absX addr)
  | .ldxAbsY addr => .data (.absY addr)
  | .ldaLongX long => .data (.longX long)
  | .cpyImm imm => .immX imm
  | .cmpIDpX dp => .data (.idpX dp)
  | .rep mask => .imm8 mask
  | .cmpSr sr => .data (.sr sr)
  | .cpyDp dp => .data (.dp dp)
  | .cmpDp dp => .data (.dp dp)
  | .decDp dp => .data (.dp dp)
  | .cmpILDp dp => .data (.ildp dp)
  | .cmpImm imm => .immM imm
  | .cpyAbs addr => .data (.abs addr)
  | .cmpAbs addr => .data (.abs addr)
  | .decAbs addr => .data (.abs addr)
  | .cmpLong long => .data (.long long)
  | .bne disp => .rel8 disp
  | .cmpIDpY dp => .data (.idpY dp)
  | .cmpIDp dp => .data (.idp dp)
  | .cmpISrY sr => .data (.isrY sr)
  | .pei dp => .data (.idp dp)
  | .cmpDpX dp => .data (.dpX dp)
  | .decDpX dp => .data (.dpX dp)
  | .cmpILDpY dp => .data (.ildpY dp)
  | .cmpAbsY addr => .data (.absY addr)
  | .jmlILAbs addr => .jilabs addr
  | .cmpAbsX addr => .data (.absX addr)
  | .decAbsX addr => .data (.absX addr)
  | .cmpLongX long => .data (.longX long)
  | .cpxImm imm => .immX imm
  | .sbcIDpX dp => .data (.idpX dp)
  | .sep mask => .imm8 mask
  | .sbcSr sr => .data (.sr sr)
  | .cpxDp dp => .data (.dp dp)
  | .sbcDp dp => .data (.dp dp)
  | .incDp dp => .data (.dp dp)
  | .sbcILDp dp => .data (.ildp dp)
  | .sbcImm imm => .immM imm
  | .cpxAbs addr => .data (.abs addr)
  | .sbcAbs addr => .data (.abs addr)
  | .incAbs addr => .data (.abs addr)
  | .sbcLong long => .data (.long long)
  | .beq disp => .rel8 disp
  | .sbcIDpY dp => .data (.idpY dp)
  | .sbcIDp dp => .data (.idp dp)
  | .sbcISrY sr => .data (.isrY sr)
  | .pea value => .imm16 value
  | .sbcDpX dp => .data (.dpX dp)
  | .incDpX dp => .data (.dpX dp)
  | .sbcILDpY dp => .data (.ildpY dp)
  | .sbcAbsY addr => .data (.absY addr)
  | .jsrIAbsX addr => .jiabsx addr
  | .sbcAbsX addr => .data (.absX addr)
  | .incAbsX addr => .data (.absX addr)
  | .sbcLongX long => .data (.longX long)
  | .php => .imp
  | .aslAcc => .acc
  | .phd => .imp
  | .clc => .imp
  | .incAcc => .acc
  | .tcs => .imp
  | .plp => .imp
  | .rolAcc => .acc
  | .pld => .imp
  | .sec => .imp
  | .decAcc => .acc
  | .tsc => .imp
  | .rti => .imp
  | .pha => .imp
  | .lsrAcc => .acc
  | .phk => .imp
  | .cli => .imp
  | .phy => .imp
  | .tcd => .imp
  | .rts => .imp
  | .pla => .imp
  | .rorAcc => .acc
  | .rtl => .imp
  | .sei => .imp
  | .ply => .imp
  | .tdc => .imp
  | .dey => .imp
  | .txa => .imp
  | .phb => .imp
  | .tya => .imp
  | .txs => .imp
  | .txy => .imp
  | .tay => .imp
  | .tax => .imp
  | .plb => .imp
  | .clv => .imp
  | .tsx => .imp
  | .tyx => .imp
  | .iny => .imp
  | .dex => .imp
  | .wai => .imp
  | .cld => .imp
  | .phx => .imp
  | .stp => .imp
  | .inx => .imp
  | .nop => .imp
  | .xba => .imp
  | .sed => .imp
  | .plx => .imp
  | .xce => .imp

/-- The format of a memory form. -/
def DataMode.format : DataMode → Format
  | .dp _ => .DP
  | .dpX _ => .DPX
  | .dpY _ => .DPY
  | .idp _ => .IDP
  | .idpX _ => .IDPX
  | .idpY _ => .IDPY
  | .ildp _ => .ILDP
  | .ildpY _ => .ILDPY
  | .sr _ => .SR
  | .isrY _ => .ISRY
  | .abs _ => .ABS
  | .absX _ => .ABSX
  | .absY _ => .ABSY
  | .long _ => .LONG
  | .longX _ => .LONGX

/-- The format of an operand (R92). -/
def Operand.format : Operand → Format
  | .imp => .IMP
  | .acc => .ACC
  | .immM _ => .IMMM
  | .immX _ => .IMMX
  | .imm8 _ => .IMM8
  | .imm16 _ => .IMM16
  | .sig _ => .SIG
  | .data mode => mode.format
  | .rel8 _ => .REL8
  | .rel16 _ => .REL16
  | .jabs _ => .JABS
  | .jlong _ => .JLONG
  | .jiabs _ => .JIABS
  | .jiabsx _ => .JIABSX
  | .jilabs _ => .JILABS
  | .blk _ _ => .BLK

/-- The format of an instruction (R92). -/
def Instr.format (i : Instr) : Format :=
  i.operand.format

/-- The source of an instruction whose operand is an immediate of a flag's width or a memory form. -/
def Operand.source? : Operand → Option Source
  | .immM v => some (.imm v)
  | .immX v => some (.imm v)
  | .data mode => some (.mem mode)
  | .imp | .acc | .imm8 _ | .imm16 _ | .sig _ | .rel8 _ | .rel16 _ => none
  | .jabs _ | .jlong _ | .jiabs _ | .jiabsx _ | .jilabs _ | .blk _ _ => none

/-- The memory form of an instruction that has one. -/
def Operand.mode? : Operand → Option DataMode
  | .data mode => some mode
  | .imp | .acc | .immM _ | .immX _ | .imm8 _ | .imm16 _ | .sig _ | .rel8 _ | .rel16 _ => none
  | .jabs _ | .jlong _ | .jiabs _ | .jiabsx _ | .jilabs _ | .blk _ _ => none

/-- The target of a read-modify-write instruction: the accumulator or a memory form (R225). -/
def Operand.target? : Operand → Option Target
  | .acc => some .acc
  | .data mode => some (.mem mode)
  | .imp | .immM _ | .immX _ | .imm8 _ | .imm16 _ | .sig _ | .rel8 _ | .rel16 _ => none
  | .jabs _ | .jlong _ | .jiabs _ | .jiabsx _ | .jilabs _ | .blk _ _ => none

end Sys2Proof
end

