-- ==== Sys2Proof/WellFormed.lean ====
section
/-! DEFINITION. When an instruction is one the decoder can read under the width flags `m` = `P.M`, `x` = `P.X`:
the only operands whose shape depends on state are the twelve immediates (30_encoding.md R94, R95). -/

namespace Sys2Proof

/-- True when the immediate is the one-byte form. -/
def Imm.isByte : Imm → Bool
  | .b8 _ => true
  | .b16 _ => false

/-- An IMMM operand is one byte exactly when `P.M = 1`, an IMMX operand exactly when `P.X = 1` (R92, R94). Every
other operand has the width its format fixes, which its type already says. -/
def Operand.wellFormed (m x : Bool) : Operand → Bool
  | .immM v => v.isByte == m
  | .immX v => v.isByte == x
  | .imp => true
  | .acc => true
  | .imm8 _ => true
  | .imm16 _ => true
  | .sig _ => true
  | .data _ => true
  | .rel8 _ => true
  | .rel16 _ => true
  | .jabs _ => true
  | .jlong _ => true
  | .jiabs _ => true
  | .jiabsx _ => true
  | .jilabs _ => true
  | .blk _ _ => true

/-- Well-formedness of an instruction under the width flags `m` = `P.M`, `x` = `P.X`. -/
def Instr.wellFormed (m x : Bool) (i : Instr) : Bool :=
  i.operand.wellFormed m x

end Sys2Proof
end

