-- ==== Sys2Proof/Decode.lean ====
section
/-! DEFINITION. From bytes to instructions and back (30_encoding.md R91 to R97): operand assembly, the opcode matrix,
the decoder and the encoder. Every opcode byte is defined (R97), so an opcode with its operand bytes always decodes;
a byte list is rejected, by name, only when it is too short. -/

namespace Sys2Proof

/-- `{h, l}`: the 16-bit word with high byte `h` and low byte `l` (00_scope.md R8). -/
def mkWord (h l : Byte) : Word :=
  h ++ l

/-- `{bank, offset}`: the 24-bit address (R8, R61). -/
def mkAddr (bank : Byte) (offset : Word) : Addr :=
  bank ++ offset

/-- `lo8(v) = v[7:0]` (R8). -/
def lo8 (v : Word) : Byte :=
  v.extractLsb' 0 8

/-- `hi8(v) = v[15:8]` (R8). -/
def hi8 (v : Word) : Byte :=
  v.extractLsb' 8 8

/-- The bank of an address, `a[23:16]` (R61). -/
def bankOf (a : Addr) : Byte :=
  a.extractLsb' 16 8

/-- The offset of an address inside its bank, `a[15:0]` (R61). -/
def offsetOf (a : Addr) : Word :=
  a.extractLsb' 0 16

/-- What follows the opcode, as fetched: `b1`, `b2`, `b3` (R91; those past the instruction's length are not used), and
the width flags `P.M`, `P.X` before the instruction. -/
structure Fields where
  b1 : Byte
  b2 : Byte
  b3 : Byte
  m : Bool
  x : Bool
  deriving DecidableEq, Repr

/-- `{b2, b1}` (R93). -/
def Fields.word (f : Fields) : Word :=
  mkWord f.b2 f.b1

/-- `{b3, b2, b1}` (R93). -/
def Fields.long (f : Fields) : Addr :=
  mkAddr f.b3 f.word

/-- The IMMM operand: one byte when `P.M = 1`, two when `P.M = 0` (R92). -/
def Fields.immM (f : Fields) : Imm :=
  if f.m then .b8 f.b1 else .b16 f.word

/-- The IMMX operand: one byte when `P.X = 1`, two when `P.X = 0` (R92). -/
def Fields.immX (f : Fields) : Imm :=
  if f.x then .b8 f.b1 else .b16 f.word

/-- The cell in column `i` of a row of sixteen. -/
def select16 {α : Type} (i : BitVec 4) (c0 c1 c2 c3 c4 c5 c6 c7 c8 c9 cA cB cC cD cE cF : α) : α :=
  match i.getLsbD 3, i.getLsbD 2, i.getLsbD 1, i.getLsbD 0 with
  | false, false, false, false => c0
  | false, false, false, true => c1
  | false, false, true, false => c2
  | false, false, true, true => c3
  | false, true, false, false => c4
  | false, true, false, true => c5
  | false, true, true, false => c6
  | false, true, true, true => c7
  | true, false, false, false => c8
  | true, false, false, true => c9
  | true, false, true, false => cA
  | true, false, true, true => cB
  | true, true, false, false => cC
  | true, true, false, true => cD
  | true, true, true, false => cE
  | true, true, true, true => cF

/-- Row `0x` of the matrix of R96; `l` is the column. -/
def decodeRow0 (f : Fields) (l : BitVec 4) : Instr :=
  select16 l
    (.brk f.b1) (.oraIDpX f.b1) (.cop f.b1) (.oraSr f.b1)
    (.tsbDp f.b1) (.oraDp f.b1) (.aslDp f.b1) (.oraILDp f.b1)
    .php (.oraImm f.immM) .aslAcc .phd
    (.tsbAbs f.word) (.oraAbs f.word) (.aslAbs f.word) (.oraLong f.long)

/-- Row `1x` of the matrix of R96; `l` is the column. -/
def decodeRow1 (f : Fields) (l : BitVec 4) : Instr :=
  select16 l
    (.bpl f.b1) (.oraIDpY f.b1) (.oraIDp f.b1) (.oraISrY f.b1)
    (.trbDp f.b1) (.oraDpX f.b1) (.aslDpX f.b1) (.oraILDpY f.b1)
    .clc (.oraAbsY f.word) .incAcc .tcs
    (.trbAbs f.word) (.oraAbsX f.word) (.aslAbsX f.word) (.oraLongX f.long)

/-- Row `2x` of the matrix of R96; `l` is the column. -/
def decodeRow2 (f : Fields) (l : BitVec 4) : Instr :=
  select16 l
    (.jsrAbs f.word) (.andIDpX f.b1) (.jsl f.long) (.andSr f.b1)
    (.bitDp f.b1) (.andDp f.b1) (.rolDp f.b1) (.andILDp f.b1)
    .plp (.andImm f.immM) .rolAcc .pld
    (.bitAbs f.word) (.andAbs f.word) (.rolAbs f.word) (.andLong f.long)

/-- Row `3x` of the matrix of R96; `l` is the column. -/
def decodeRow3 (f : Fields) (l : BitVec 4) : Instr :=
  select16 l
    (.bmi f.b1) (.andIDpY f.b1) (.andIDp f.b1) (.andISrY f.b1)
    (.bitDpX f.b1) (.andDpX f.b1) (.rolDpX f.b1) (.andILDpY f.b1)
    .sec (.andAbsY f.word) .decAcc .tsc
    (.bitAbsX f.word) (.andAbsX f.word) (.rolAbsX f.word) (.andLongX f.long)

/-- Row `4x` of the matrix of R96; `l` is the column. -/
def decodeRow4 (f : Fields) (l : BitVec 4) : Instr :=
  select16 l
    .rti (.eorIDpX f.b1) (.wdm f.b1) (.eorSr f.b1)
    (.mvp f.b1 f.b2) (.eorDp f.b1) (.lsrDp f.b1) (.eorILDp f.b1)
    .pha (.eorImm f.immM) .lsrAcc .phk
    (.jmpAbs f.word) (.eorAbs f.word) (.lsrAbs f.word) (.eorLong f.long)

/-- Row `5x` of the matrix of R96; `l` is the column. -/
def decodeRow5 (f : Fields) (l : BitVec 4) : Instr :=
  select16 l
    (.bvc f.b1) (.eorIDpY f.b1) (.eorIDp f.b1) (.eorISrY f.b1)
    (.mvn f.b1 f.b2) (.eorDpX f.b1) (.lsrDpX f.b1) (.eorILDpY f.b1)
    .cli (.eorAbsY f.word) .phy .tcd
    (.jmlLong f.long) (.eorAbsX f.word) (.lsrAbsX f.word) (.eorLongX f.long)

/-- Row `6x` of the matrix of R96; `l` is the column. -/
def decodeRow6 (f : Fields) (l : BitVec 4) : Instr :=
  select16 l
    .rts (.adcIDpX f.b1) (.per f.word) (.adcSr f.b1)
    (.stzDp f.b1) (.adcDp f.b1) (.rorDp f.b1) (.adcILDp f.b1)
    .pla (.adcImm f.immM) .rorAcc .rtl
    (.jmpIAbs f.word) (.adcAbs f.word) (.rorAbs f.word) (.adcLong f.long)

/-- Row `7x` of the matrix of R96; `l` is the column. -/
def decodeRow7 (f : Fields) (l : BitVec 4) : Instr :=
  select16 l
    (.bvs f.b1) (.adcIDpY f.b1) (.adcIDp f.b1) (.adcISrY f.b1)
    (.stzDpX f.b1) (.adcDpX f.b1) (.rorDpX f.b1) (.adcILDpY f.b1)
    .sei (.adcAbsY f.word) .ply .tdc
    (.jmpIAbsX f.word) (.adcAbsX f.word) (.rorAbsX f.word) (.adcLongX f.long)

/-- Row `8x` of the matrix of R96; `l` is the column. -/
def decodeRow8 (f : Fields) (l : BitVec 4) : Instr :=
  select16 l
    (.bra f.b1) (.staIDpX f.b1) (.brl f.word) (.staSr f.b1)
    (.styDp f.b1) (.staDp f.b1) (.stxDp f.b1) (.staILDp f.b1)
    .dey (.bitImm f.immM) .txa .phb
    (.styAbs f.word) (.staAbs f.word) (.stxAbs f.word) (.staLong f.long)

/-- Row `9x` of the matrix of R96; `l` is the column. -/
def decodeRow9 (f : Fields) (l : BitVec 4) : Instr :=
  select16 l
    (.bcc f.b1) (.staIDpY f.b1) (.staIDp f.b1) (.staISrY f.b1)
    (.styDpX f.b1) (.staDpX f.b1) (.stxDpY f.b1) (.staILDpY f.b1)
    .tya (.staAbsY f.word) .txs .txy
    (.stzAbs f.word) (.staAbsX f.word) (.stzAbsX f.word) (.staLongX f.long)

/-- Row `Ax` of the matrix of R96; `l` is the column. -/
def decodeRowA (f : Fields) (l : BitVec 4) : Instr :=
  select16 l
    (.ldyImm f.immX) (.ldaIDpX f.b1) (.ldxImm f.immX) (.ldaSr f.b1)
    (.ldyDp f.b1) (.ldaDp f.b1) (.ldxDp f.b1) (.ldaILDp f.b1)
    .tay (.ldaImm f.immM) .tax .plb
    (.ldyAbs f.word) (.ldaAbs f.word) (.ldxAbs f.word) (.ldaLong f.long)

/-- Row `Bx` of the matrix of R96; `l` is the column. -/
def decodeRowB (f : Fields) (l : BitVec 4) : Instr :=
  select16 l
    (.bcs f.b1) (.ldaIDpY f.b1) (.ldaIDp f.b1) (.ldaISrY f.b1)
    (.ldyDpX f.b1) (.ldaDpX f.b1) (.ldxDpY f.b1) (.ldaILDpY f.b1)
    .clv (.ldaAbsY f.word) .tsx .tyx
    (.ldyAbsX f.word) (.ldaAbsX f.word) (.ldxAbsY f.word) (.ldaLongX f.long)

/-- Row `Cx` of the matrix of R96; `l` is the column. -/
def decodeRowC (f : Fields) (l : BitVec 4) : Instr :=
  select16 l
    (.cpyImm f.immX) (.cmpIDpX f.b1) (.rep f.b1) (.cmpSr f.b1)
    (.cpyDp f.b1) (.cmpDp f.b1) (.decDp f.b1) (.cmpILDp f.b1)
    .iny (.cmpImm f.immM) .dex .wai
    (.cpyAbs f.word) (.cmpAbs f.word) (.decAbs f.word) (.cmpLong f.long)

/-- Row `Dx` of the matrix of R96; `l` is the column. -/
def decodeRowD (f : Fields) (l : BitVec 4) : Instr :=
  select16 l
    (.bne f.b1) (.cmpIDpY f.b1) (.cmpIDp f.b1) (.cmpISrY f.b1)
    (.pei f.b1) (.cmpDpX f.b1) (.decDpX f.b1) (.cmpILDpY f.b1)
    .cld (.cmpAbsY f.word) .phx .stp
    (.jmlILAbs f.word) (.cmpAbsX f.word) (.decAbsX f.word) (.cmpLongX f.long)

/-- Row `Ex` of the matrix of R96; `l` is the column. -/
def decodeRowE (f : Fields) (l : BitVec 4) : Instr :=
  select16 l
    (.cpxImm f.immX) (.sbcIDpX f.b1) (.sep f.b1) (.sbcSr f.b1)
    (.cpxDp f.b1) (.sbcDp f.b1) (.incDp f.b1) (.sbcILDp f.b1)
    .inx (.sbcImm f.immM) .nop .xba
    (.cpxAbs f.word) (.sbcAbs f.word) (.incAbs f.word) (.sbcLong f.long)

/-- Row `Fx` of the matrix of R96; `l` is the column. -/
def decodeRowF (f : Fields) (l : BitVec 4) : Instr :=
  select16 l
    (.beq f.b1) (.sbcIDpY f.b1) (.sbcIDp f.b1) (.sbcISrY f.b1)
    (.pea f.word) (.sbcDpX f.b1) (.incDpX f.b1) (.sbcILDpY f.b1)
    .sed (.sbcAbsY f.word) .plx .xce
    (.jsrIAbsX f.word) (.sbcAbsX f.word) (.incAbsX f.word) (.sbcLongX f.long)

/-- The instruction of an opcode byte `$hl` and the bytes that follow it: row `h`, column `l` of the matrix of R96. It
never fails (R91, R97). -/
def decodeOpcode (op : Byte) (f : Fields) : Instr :=
  let l : BitVec 4 := op.extractLsb' 0 4
  select16 (op.extractLsb' 4 4)
    (decodeRow0 f l) (decodeRow1 f l) (decodeRow2 f l) (decodeRow3 f l)
    (decodeRow4 f l) (decodeRow5 f l) (decodeRow6 f l) (decodeRow7 f l)
    (decodeRow8 f l) (decodeRow9 f l) (decodeRowA f l) (decodeRowB f l)
    (decodeRowC f l) (decodeRowD f l) (decodeRowE f l) (decodeRowF f l)

/-- `OperandBytes(op, M, X)` by format (R94): the number of bytes after the opcode. -/
def Format.operandBytes (m x : Bool) : Format → Nat
  | .IMP => 0
  | .ACC => 0
  | .IMMM => if m then 1 else 2
  | .IMMX => if x then 1 else 2
  | .IMM8 => 1
  | .IMM16 => 2
  | .SIG => 1
  | .DP => 1
  | .DPX => 1
  | .DPY => 1
  | .IDP => 1
  | .IDPX => 1
  | .IDPY => 1
  | .ILDP => 1
  | .ILDPY => 1
  | .SR => 1
  | .ISRY => 1
  | .ABS => 2
  | .ABSX => 2
  | .ABSY => 2
  | .LONG => 3
  | .LONGX => 3
  | .REL8 => 1
  | .REL16 => 2
  | .JABS => 2
  | .JLONG => 3
  | .JIABS => 2
  | .JIABSX => 2
  | .JILABS => 2
  | .BLK => 2

/-- `OperandBytes(op, M, X)` of an opcode byte (R94): "a pure function of opcode+current M/X width". -/
def operandCount (op : Byte) (m x : Bool) : Nat :=
  (decodeOpcode op ⟨0, 0, 0, m, x⟩).format.operandBytes m x

/-- Why a list of bytes is no instruction. No opcode is illegal (R97): a list can only be too short. -/
inductive DecodeError
  /-- The list is empty: there is no opcode byte. -/
  | noOpcode
  /-- The list ends before the operand bytes of this opcode do. -/
  | truncated (op : Byte)
  deriving DecidableEq, Repr

/-- The decoder on bytes in fetch order, under the width flags `m` = `P.M`, `x` = `P.X` (R91): the instruction and the
bytes after it, or the name of what is wrong. -/
def decode (m x : Bool) : List Byte → Except DecodeError (Instr × List Byte)
  | [] => .error .noOpcode
  | op :: rest =>
    let n := operandCount op m x
    if rest.length < n then .error (.truncated op)
    else .ok (decodeOpcode op ⟨rest.getD 0 0, rest.getD 1 0, rest.getD 2 0, m, x⟩, rest.drop n)

/-- The opcode byte of an instruction (R96). -/
def Instr.opcode : Instr → Byte
  | .brk _ => 0x00#8
  | .oraIDpX _ => 0x01#8
  | .cop _ => 0x02#8
  | .oraSr _ => 0x03#8
  | .tsbDp _ => 0x04#8
  | .oraDp _ => 0x05#8
  | .aslDp _ => 0x06#8
  | .oraILDp _ => 0x07#8
  | .oraImm _ => 0x09#8
  | .tsbAbs _ => 0x0C#8
  | .oraAbs _ => 0x0D#8
  | .aslAbs _ => 0x0E#8
  | .oraLong _ => 0x0F#8
  | .bpl _ => 0x10#8
  | .oraIDpY _ => 0x11#8
  | .oraIDp _ => 0x12#8
  | .oraISrY _ => 0x13#8
  | .trbDp _ => 0x14#8
  | .oraDpX _ => 0x15#8
  | .aslDpX _ => 0x16#8
  | .oraILDpY _ => 0x17#8
  | .oraAbsY _ => 0x19#8
  | .trbAbs _ => 0x1C#8
  | .oraAbsX _ => 0x1D#8
  | .aslAbsX _ => 0x1E#8
  | .oraLongX _ => 0x1F#8
  | .jsrAbs _ => 0x20#8
  | .andIDpX _ => 0x21#8
  | .jsl _ => 0x22#8
  | .andSr _ => 0x23#8
  | .bitDp _ => 0x24#8
  | .andDp _ => 0x25#8
  | .rolDp _ => 0x26#8
  | .andILDp _ => 0x27#8
  | .andImm _ => 0x29#8
  | .bitAbs _ => 0x2C#8
  | .andAbs _ => 0x2D#8
  | .rolAbs _ => 0x2E#8
  | .andLong _ => 0x2F#8
  | .bmi _ => 0x30#8
  | .andIDpY _ => 0x31#8
  | .andIDp _ => 0x32#8
  | .andISrY _ => 0x33#8
  | .bitDpX _ => 0x34#8
  | .andDpX _ => 0x35#8
  | .rolDpX _ => 0x36#8
  | .andILDpY _ => 0x37#8
  | .andAbsY _ => 0x39#8
  | .bitAbsX _ => 0x3C#8
  | .andAbsX _ => 0x3D#8
  | .rolAbsX _ => 0x3E#8
  | .andLongX _ => 0x3F#8
  | .eorIDpX _ => 0x41#8
  | .wdm _ => 0x42#8
  | .eorSr _ => 0x43#8
  | .mvp _ _ => 0x44#8
  | .eorDp _ => 0x45#8
  | .lsrDp _ => 0x46#8
  | .eorILDp _ => 0x47#8
  | .eorImm _ => 0x49#8
  | .jmpAbs _ => 0x4C#8
  | .eorAbs _ => 0x4D#8
  | .lsrAbs _ => 0x4E#8
  | .eorLong _ => 0x4F#8
  | .bvc _ => 0x50#8
  | .eorIDpY _ => 0x51#8
  | .eorIDp _ => 0x52#8
  | .eorISrY _ => 0x53#8
  | .mvn _ _ => 0x54#8
  | .eorDpX _ => 0x55#8
  | .lsrDpX _ => 0x56#8
  | .eorILDpY _ => 0x57#8
  | .eorAbsY _ => 0x59#8
  | .jmlLong _ => 0x5C#8
  | .eorAbsX _ => 0x5D#8
  | .lsrAbsX _ => 0x5E#8
  | .eorLongX _ => 0x5F#8
  | .adcIDpX _ => 0x61#8
  | .per _ => 0x62#8
  | .adcSr _ => 0x63#8
  | .stzDp _ => 0x64#8
  | .adcDp _ => 0x65#8
  | .rorDp _ => 0x66#8
  | .adcILDp _ => 0x67#8
  | .adcImm _ => 0x69#8
  | .jmpIAbs _ => 0x6C#8
  | .adcAbs _ => 0x6D#8
  | .rorAbs _ => 0x6E#8
  | .adcLong _ => 0x6F#8
  | .bvs _ => 0x70#8
  | .adcIDpY _ => 0x71#8
  | .adcIDp _ => 0x72#8
  | .adcISrY _ => 0x73#8
  | .stzDpX _ => 0x74#8
  | .adcDpX _ => 0x75#8
  | .rorDpX _ => 0x76#8
  | .adcILDpY _ => 0x77#8
  | .adcAbsY _ => 0x79#8
  | .jmpIAbsX _ => 0x7C#8
  | .adcAbsX _ => 0x7D#8
  | .rorAbsX _ => 0x7E#8
  | .adcLongX _ => 0x7F#8
  | .bra _ => 0x80#8
  | .staIDpX _ => 0x81#8
  | .brl _ => 0x82#8
  | .staSr _ => 0x83#8
  | .styDp _ => 0x84#8
  | .staDp _ => 0x85#8
  | .stxDp _ => 0x86#8
  | .staILDp _ => 0x87#8
  | .bitImm _ => 0x89#8
  | .styAbs _ => 0x8C#8
  | .staAbs _ => 0x8D#8
  | .stxAbs _ => 0x8E#8
  | .staLong _ => 0x8F#8
  | .bcc _ => 0x90#8
  | .staIDpY _ => 0x91#8
  | .staIDp _ => 0x92#8
  | .staISrY _ => 0x93#8
  | .styDpX _ => 0x94#8
  | .staDpX _ => 0x95#8
  | .stxDpY _ => 0x96#8
  | .staILDpY _ => 0x97#8
  | .staAbsY _ => 0x99#8
  | .stzAbs _ => 0x9C#8
  | .staAbsX _ => 0x9D#8
  | .stzAbsX _ => 0x9E#8
  | .staLongX _ => 0x9F#8
  | .ldyImm _ => 0xA0#8
  | .ldaIDpX _ => 0xA1#8
  | .ldxImm _ => 0xA2#8
  | .ldaSr _ => 0xA3#8
  | .ldyDp _ => 0xA4#8
  | .ldaDp _ => 0xA5#8
  | .ldxDp _ => 0xA6#8
  | .ldaILDp _ => 0xA7#8
  | .ldaImm _ => 0xA9#8
  | .ldyAbs _ => 0xAC#8
  | .ldaAbs _ => 0xAD#8
  | .ldxAbs _ => 0xAE#8
  | .ldaLong _ => 0xAF#8
  | .bcs _ => 0xB0#8
  | .ldaIDpY _ => 0xB1#8
  | .ldaIDp _ => 0xB2#8
  | .ldaISrY _ => 0xB3#8
  | .ldyDpX _ => 0xB4#8
  | .ldaDpX _ => 0xB5#8
  | .ldxDpY _ => 0xB6#8
  | .ldaILDpY _ => 0xB7#8
  | .ldaAbsY _ => 0xB9#8
  | .ldyAbsX _ => 0xBC#8
  | .ldaAbsX _ => 0xBD#8
  | .ldxAbsY _ => 0xBE#8
  | .ldaLongX _ => 0xBF#8
  | .cpyImm _ => 0xC0#8
  | .cmpIDpX _ => 0xC1#8
  | .rep _ => 0xC2#8
  | .cmpSr _ => 0xC3#8
  | .cpyDp _ => 0xC4#8
  | .cmpDp _ => 0xC5#8
  | .decDp _ => 0xC6#8
  | .cmpILDp _ => 0xC7#8
  | .cmpImm _ => 0xC9#8
  | .cpyAbs _ => 0xCC#8
  | .cmpAbs _ => 0xCD#8
  | .decAbs _ => 0xCE#8
  | .cmpLong _ => 0xCF#8
  | .bne _ => 0xD0#8
  | .cmpIDpY _ => 0xD1#8
  | .cmpIDp _ => 0xD2#8
  | .cmpISrY _ => 0xD3#8
  | .pei _ => 0xD4#8
  | .cmpDpX _ => 0xD5#8
  | .decDpX _ => 0xD6#8
  | .cmpILDpY _ => 0xD7#8
  | .cmpAbsY _ => 0xD9#8
  | .jmlILAbs _ => 0xDC#8
  | .cmpAbsX _ => 0xDD#8
  | .decAbsX _ => 0xDE#8
  | .cmpLongX _ => 0xDF#8
  | .cpxImm _ => 0xE0#8
  | .sbcIDpX _ => 0xE1#8
  | .sep _ => 0xE2#8
  | .sbcSr _ => 0xE3#8
  | .cpxDp _ => 0xE4#8
  | .sbcDp _ => 0xE5#8
  | .incDp _ => 0xE6#8
  | .sbcILDp _ => 0xE7#8
  | .sbcImm _ => 0xE9#8
  | .cpxAbs _ => 0xEC#8
  | .sbcAbs _ => 0xED#8
  | .incAbs _ => 0xEE#8
  | .sbcLong _ => 0xEF#8
  | .beq _ => 0xF0#8
  | .sbcIDpY _ => 0xF1#8
  | .sbcIDp _ => 0xF2#8
  | .sbcISrY _ => 0xF3#8
  | .pea _ => 0xF4#8
  | .sbcDpX _ => 0xF5#8
  | .incDpX _ => 0xF6#8
  | .sbcILDpY _ => 0xF7#8
  | .sbcAbsY _ => 0xF9#8
  | .jsrIAbsX _ => 0xFC#8
  | .sbcAbsX _ => 0xFD#8
  | .incAbsX _ => 0xFE#8
  | .sbcLongX _ => 0xFF#8
  | .php => 0x08#8
  | .aslAcc => 0x0A#8
  | .phd => 0x0B#8
  | .clc => 0x18#8
  | .incAcc => 0x1A#8
  | .tcs => 0x1B#8
  | .plp => 0x28#8
  | .rolAcc => 0x2A#8
  | .pld => 0x2B#8
  | .sec => 0x38#8
  | .decAcc => 0x3A#8
  | .tsc => 0x3B#8
  | .rti => 0x40#8
  | .pha => 0x48#8
  | .lsrAcc => 0x4A#8
  | .phk => 0x4B#8
  | .cli => 0x58#8
  | .phy => 0x5A#8
  | .tcd => 0x5B#8
  | .rts => 0x60#8
  | .pla => 0x68#8
  | .rorAcc => 0x6A#8
  | .rtl => 0x6B#8
  | .sei => 0x78#8
  | .ply => 0x7A#8
  | .tdc => 0x7B#8
  | .dey => 0x88#8
  | .txa => 0x8A#8
  | .phb => 0x8B#8
  | .tya => 0x98#8
  | .txs => 0x9A#8
  | .txy => 0x9B#8
  | .tay => 0xA8#8
  | .tax => 0xAA#8
  | .plb => 0xAB#8
  | .clv => 0xB8#8
  | .tsx => 0xBA#8
  | .tyx => 0xBB#8
  | .iny => 0xC8#8
  | .dex => 0xCA#8
  | .wai => 0xCB#8
  | .cld => 0xD8#8
  | .phx => 0xDA#8
  | .stp => 0xDB#8
  | .inx => 0xE8#8
  | .nop => 0xEA#8
  | .xba => 0xEB#8
  | .sed => 0xF8#8
  | .plx => 0xFA#8
  | .xce => 0xFB#8

/-- The bytes of a 16-bit operand field, low byte first (R93). -/
def wordBytes (v : Word) : List Byte :=
  [lo8 v, hi8 v]

/-- The bytes of a 24-bit operand field, low byte first (R93). -/
def longBytes (v : Addr) : List Byte :=
  [lo8 (offsetOf v), hi8 (offsetOf v), bankOf v]

/-- The bytes of an immediate (R92). -/
def Imm.bytes : Imm → List Byte
  | .b8 v => [v]
  | .b16 v => wordBytes v

/-- The bytes of a memory form's operand (R92). -/
def DataMode.bytes : DataMode → List Byte
  | .dp v => [v]
  | .dpX v => [v]
  | .dpY v => [v]
  | .idp v => [v]
  | .idpX v => [v]
  | .idpY v => [v]
  | .ildp v => [v]
  | .ildpY v => [v]
  | .sr v => [v]
  | .isrY v => [v]
  | .abs v => wordBytes v
  | .absX v => wordBytes v
  | .absY v => wordBytes v
  | .long v => longBytes v
  | .longX v => longBytes v

/-- The operand bytes in fetch order (R92, R93); the destination bank of a block move stands first (R145). -/
def Operand.bytes : Operand → List Byte
  | .imp => []
  | .acc => []
  | .immM v => v.bytes
  | .immX v => v.bytes
  | .imm8 v => [v]
  | .imm16 v => wordBytes v
  | .sig v => [v]
  | .data mode => mode.bytes
  | .rel8 v => [v]
  | .rel16 v => wordBytes v
  | .jabs v => wordBytes v
  | .jlong v => longBytes v
  | .jiabs v => wordBytes v
  | .jiabsx v => wordBytes v
  | .jilabs v => wordBytes v
  | .blk dst src => [dst, src]

/-- The encoder: the bytes of an instruction, opcode first (R92). -/
def encode (i : Instr) : List Byte :=
  i.opcode :: i.operand.bytes

/-- Byte `k` of a number written with bit 0 the least significant bit of its first byte. -/
def tableByte (w k : Nat) : Byte :=
  BitVec.ofNat 8 (w / 2 ^ (8 * k))

/-- The longest instruction, four bytes (R94), laid out as they stand in memory: the row's bits, zeros above `nbits`. -/
def tableBytes (nbits w : Nat) : List Byte :=
  let v := w % 2 ^ nbits
  [tableByte v 0, tableByte v 1, tableByte v 2, tableByte v 3]

/-- The instruction the decoder reads from a row of opcode_table.json, under the width flags that hold after reset,
`P.M = P.X = 1` (10_state.md R38; notes/assumptions/4.md). -/
def decodeTableWord (nbits w : Nat) : Option Instr :=
  match decode true true (tableBytes nbits w) with
  | .ok (i, _) => some i
  | .error _ => none

end Sys2Proof
end

