-- ==== Sys2Proof/Machine/Memory.lean ====
section
/-! DEFINITION. Memory as data: what the Memory Port's RAM holds over the whole 24-bit space (20_memory.md R60, R61).
A list of (address, byte) cells with strictly rising addresses below 2^24, and no cell that holds what an unlisted
address reads as; so equal memories are equal lists. -/

namespace Sys2Proof.Machine

/-- The contents of the 2^24 bytes of flat RAM (R60), in canonical form. -/
abbrev Memory := List Host.Cell

/-- What a byte that nothing has written reads as. The spec leaves what the port answers OPEN (92_eei_decisions.md D2);
its test vectors take all bytes `$00` unless they say otherwise (95_test_vectors.md, conventions).
DESIGN CHOICE, unsafe: notes/assumptions/1.md. -/
def Memory.unlisted : Byte := 0

/-- The byte RAM holds at an address. -/
def Memory.read : Memory → Nat → Byte
  | [], _ => Memory.unlisted
  | (k, v) :: rest, a => if k = a then v else Memory.read rest a

/-- Put a cell in front, unless it holds what an unlisted address reads as. -/
def Memory.cons (a : Nat) (v : Byte) (m : Memory) : Memory :=
  if v = Memory.unlisted then m else (a, v) :: m

/-- RAM after a byte is written. -/
def Memory.write : Memory → Nat → Byte → Memory
  | [], a, v => Memory.cons a v []
  | (k, u) :: rest, a, v =>
    if a < k then Memory.cons a v ((k, u) :: rest)
    else if a = k then Memory.cons a v rest
    else (k, u) :: Memory.write rest a v

/-- The canonical form above a lower bound: addresses rise strictly from `lo` and stay below 2^24, and every listed byte
differs from what an unlisted address reads as. -/
def Memory.wfFrom : Nat → Memory → Bool
  | _, [] => true
  | lo, (k, v) :: rest => decide (lo ≤ k) && decide (k < 2 ^ 24) && decide (v ≠ Memory.unlisted) && Memory.wfFrom (k + 1) rest

/-- Memory is in its canonical form. -/
def Memory.wf (m : Memory) : Bool :=
  Memory.wfFrom 0 m

end Sys2Proof.Machine
end

