-- ==== Sys2Proof/Machine/State.lean ====
section
/-! DEFINITION. The state of the engine (10_state.md R20) with the Memory Port it is attached to (20_memory.md R60), the
state right after reset (R38, R420), and the reasons a step can stop. -/

namespace Sys2Proof.Machine

/-- The eight bits of `P` (R26), most significant first. -/
inductive Flag
  | N | V | M | X | D | I | Z | C
  deriving DecidableEq, Repr

/-- An operating width (00_scope.md R9). -/
inductive Width
  | w8 | w16
  deriving DecidableEq, Repr

/-- The direction of a block move (R34): `+1` for MVN, `−1` for MVP. -/
inductive Direction
  | up | down
  deriving DecidableEq, Repr

/-- `MV`, the latch of the block-move repeat controller (R34). -/
inductive BlockMove
  /-- No block move is in progress. -/
  | idle
  /-- A move with bytes left: its direction and the two bank bytes latched at its first step. -/
  | active (dir : Direction) (dst src : Byte)
  deriving DecidableEq, Repr

/-- One call of the Memory Port (20_memory.md R60). -/
inductive Access
  /-- `read_byte` at this address answered this byte. -/
  | read (addr : Addr) (value : Byte)
  /-- `write_byte` at this address with this byte. -/
  | write (addr : Addr) (value : Byte)
  deriving DecidableEq, Repr

/-- The engine of R20 and the Memory Port of R60.

`A` to `irqPending` are the engine's fields, each under the spec's own name. `mem`, `script` and `trace` are the port,
the OPEN parameter of R7 (92_eei_decisions.md D2): `mem` is RAM over the whole address space, `script` holds the
answers the environment has lined up for the next reads (`some b`: the port answers `b`, whatever RAM holds there;
`none`, or nothing left: it answers what RAM holds), and `trace` is the record of every access, newest first, that R60
requires. With `script` empty the port is flat RAM. A theorem about every state therefore holds whatever the port
answers. (notes/assumptions/1.md, 2.md) -/
structure State where
  /-- Accumulator, 16 bits (R21). -/
  A : Word
  /-- Index register X, 16 bits (R23). -/
  X : Word
  /-- Index register Y, 16 bits (R23). -/
  Y : Word
  /-- Stack pointer, 16 bits (R24). -/
  SP : Word
  /-- Program counter, 16 bits (R25). -/
  PC : Word
  /-- Program bank register (R25). -/
  PBR : Byte
  /-- Data bank register (R31). -/
  DBR : Byte
  /-- Direct-page register, 16 bits (R30). -/
  D : Word
  /-- Processor status N V M X D I Z C (R26). -/
  P : Byte
  /-- Emulation bit, not part of `P` (R27). -/
  E : Bool
  /-- `Waiting`, set by WAI (R32). -/
  waiting : Bool
  /-- `Stopped`, set by STP (R33). -/
  stopped : Bool
  /-- `MV`, the block-move latch (R34). -/
  mv : BlockMove
  /-- `NmiPending` (R35). -/
  nmiPending : Bool
  /-- `IrqPending` (R35). -/
  irqPending : Bool
  /-- What the port's RAM holds (R60). -/
  mem : Memory
  /-- The port's answers to the next reads, the model's input (R60). -/
  script : List (Option Byte)
  /-- The accesses made so far, newest first (R60). -/
  trace : List Access
  deriving DecidableEq, Repr

/-- Faults: there are none. "No error returns": no opcode is illegal, no access is refused, no arithmetic traps
(00_scope.md R6, 60_exceptions.md R380), so the type has no constructor, nothing raises one, and that is safe. -/
inductive Fault where
  deriving DecidableEq, Repr

/-- Refusals. No meaning and no step of this model raises one (00_scope.md R6). -/
inductive Refusal where
  /-- An arm of `exec` whose instruction has no meaning yet: raised by no arm of this model. It would be safe. -/
  | notModelled (mnemonic : String)
  deriving DecidableEq, Repr

/-- The machine right after `reset()` (10_state.md R38, 70_reset_and_hazards.md R420): emulation mode, 8-bit widths, IRQ
masked, binary arithmetic, `SP.h = $01`, `PC` from the vector `$00:FFFC` of memory with nothing listed, and the two
vector reads on record. The values R38 leaves unspecified (`A`, `X.l`, `Y.l`, `SP.l`, N, V, Z, C: the parameter
`ResetDraw`) are drawn as zero here: DESIGN CHOICE, unsafe (notes/assumptions/3.md). `State.doReset`
(Machine/Environment.lean) takes the draw as an argument. -/
def State.reset : State where
  A := 0x0000#16
  X := 0x0000#16
  Y := 0x0000#16
  SP := 0x0100#16
  PC := 0x0000#16
  PBR := 0x00#8
  DBR := 0x00#8
  D := 0x0000#16
  P := 0x34#8
  E := true
  waiting := false
  stopped := false
  mv := .idle
  nmiPending := false
  irqPending := false
  mem := []
  script := []
  trace := [.read 0x00FFFD 0, .read 0x00FFFC 0]

end Sys2Proof.Machine
end

