-- ==== Sys2Proof/Machine/Flags.lean ====
section
/-! DEFINITION. The status register's bits (10_state.md R26, R28) and every computation that sets them: the ALU
(42_arithmetic_logic.md), shifts (43), compares and bit tests (44), increments (45). Values are 16-bit words; at
width 8 the high byte is zero. -/

namespace Sys2Proof.Machine

/-- The bit number of a flag in `P` (R26). -/
def Flag.bit : Flag → Nat
  | .N => 7
  | .V => 6
  | .M => 5
  | .X => 4
  | .D => 3
  | .I => 2
  | .Z => 1
  | .C => 0

/-- A flag of a status byte. -/
def getFlag (p : Byte) (f : Flag) : Bool :=
  p.getLsbD f.bit

/-- A status byte with one flag written. -/
def putFlag (p : Byte) (f : Flag) (b : Bool) : Byte :=
  if b then p ||| BitVec.twoPow 8 f.bit else p &&& ~~~(BitVec.twoPow 8 f.bit)

/-- The number of bits of a width (R9). -/
def Width.bits : Width → Nat
  | .w8 => 8
  | .w16 => 16

/-- `mask(w) = 2^w − 1` (R9). -/
def Width.mask : Width → Word
  | .w8 => 0x00FF#16
  | .w16 => 0xFFFF#16

/-- `sign(w) = 2^(w−1)` (R9). -/
def Width.sign : Width → Word
  | .w8 => 0x0080#16
  | .w16 => 0x8000#16

/-- The width a width flag selects: `8 if 1 else 16` (R9). -/
def widthOf (flag : Bool) : Width :=
  if flag then .w8 else .w16

/-- The top bit of a value at a width, `v[w−1]`. -/
def topBit (v : Word) (w : Width) : Bool :=
  v.getLsbD (w.bits - 1)

/-- `SetNZ(v, w)` on a status byte (R28). -/
def setNZ (p : Byte) (v : Word) (w : Width) : Byte :=
  putFlag (putFlag p .N (topBit v w)) .Z (decide (v &&& w.mask = 0))

/-- `AddBinary(a, m, cin, w)` (R206): the sum modulo `2^w`, and the carry out. -/
def addBinary (a m : Word) (cin : Bool) (w : Width) : Word × Bool :=
  let s := a.toNat + m.toNat + cin.toNat
  (BitVec.ofNat 16 (s % 2 ^ w.bits), decide (2 ^ w.bits ≤ s))

/-- One digit of `AddDecimal` (R207): the digit of the result and the carry into the next digit. -/
def addDigit (a m : Nat) (c : Bool) : Nat × Bool :=
  let t := a + m + c.toNat
  let t := if 9 < t then t + 6 else t
  (t % 16, decide (15 < t))

/-- One digit of `SubDecimal` (R208): `mc` is the complemented digit, `t` may be negative. -/
def subDigit (a mc : Nat) (c : Bool) : Nat × Bool :=
  let t : Int := a + mc + c.toNat
  let t := if t ≤ 15 then t - 6 else t
  ((t % 16).toNat, decide (15 < t))

/-- A digit operation carried along `n` digits, least significant first (R207, R208). -/
def overDigits (digit : Nat → Nat → Bool → Nat × Bool) : Nat → Nat → Nat → Bool → Nat × Bool
  | 0, _, _, c => (0, c)
  | n + 1, a, m, c =>
    let d := digit (a % 16) (m % 16) c
    let r := overDigits digit n (a / 16) (m / 16) d.2
    (d.1 + 16 * r.1, r.2)

/-- `AddDecimal(a, m, cin, w)` (R207). -/
def addDecimal (a m : Word) (cin : Bool) (w : Width) : Word × Bool :=
  let r := overDigits addDigit (w.bits / 4) a.toNat m.toNat cin
  (BitVec.ofNat 16 r.1, r.2)

/-- `SubDecimal(a, mc, cin, w)` (R208). -/
def subDecimal (a mc : Word) (cin : Bool) (w : Width) : Word × Bool :=
  let r := overDigits subDigit (w.bits / 4) a.toNat mc.toNat cin
  (BitVec.ofNat 16 r.1, r.2)

/-- `Overflow(a, m, r, w)` (R209). -/
def overflow (a m r : Word) (w : Width) : Bool :=
  decide (~~~(a ^^^ m) &&& (a ^^^ r) &&& w.sign ≠ 0)

/-- The flags of ADC and SBC from operands, result and carry out (R204, R205): C, V, then N and Z of the result. -/
def addFlags (p : Byte) (a m : Word) (r : Word × Bool) (w : Width) : Byte :=
  setNZ (putFlag (putFlag p .C r.2) .V (overflow a m r.1 w)) r.1 w

/-- ADC (R204): result and status byte. -/
def adcResult (p : Byte) (a m : Word) (w : Width) : Word × Byte :=
  let c := getFlag p .C
  let r := if getFlag p .D then addDecimal a m c w else addBinary a m c w
  (r.1, addFlags p a m r w)

/-- The complemented operand of SBC, `mc = (~m) & mask(w)` (R205). -/
def complementAt (m : Word) (w : Width) : Word :=
  ~~~m &&& w.mask

/-- SBC (R205): result and status byte. -/
def sbcResult (p : Byte) (a m : Word) (w : Width) : Word × Byte :=
  let mc := complementAt m w
  let c := getFlag p .C
  let r := if getFlag p .D then subDecimal a mc c w else addBinary a mc c w
  (r.1, addFlags p a mc r w)

/-- A logic operation's result with its flags (R201 to R203): N and Z. -/
def logicResult (p : Byte) (r : Word) (w : Width) : Word × Byte :=
  (r, setNZ p r w)

/-- Compare (R241): C is `a ≥ m` unsigned, N and Z those of the truncated difference. -/
def compareFlags (p : Byte) (a m : Word) (w : Width) : Byte :=
  setNZ (putFlag p .C (decide (m.toNat ≤ a.toNat))) ((a - m) &&& w.mask) w

/-- Z of a bit test: `(a & m) = 0` (R244, R245). -/
def testZ (p : Byte) (a m : Word) : Byte :=
  putFlag p .Z (decide (a &&& m = 0))

/-- BIT's memory forms (R244): Z, and N, V from the top two bits of the operand. -/
def bitFlags (p : Byte) (a m : Word) (w : Width) : Byte :=
  putFlag (putFlag (testZ p a m) .N (m.getLsbD (w.bits - 1))) .V (m.getLsbD (w.bits - 2))

/-- ASL's `f(v)` (R221). -/
def aslResult (p : Byte) (v : Word) (w : Width) : Word × Byte :=
  let r := (v <<< 1) &&& w.mask
  (r, setNZ (putFlag p .C (topBit v w)) r w)

/-- LSR's `f(v)` (R222). -/
def lsrResult (p : Byte) (v : Word) (w : Width) : Word × Byte :=
  let r := v >>> 1
  (r, setNZ (putFlag p .C (v.getLsbD 0)) r w)

/-- ROL's `f(v)` (R223). -/
def rolResult (p : Byte) (v : Word) (w : Width) : Word × Byte :=
  let r := ((v <<< 1) ||| BitVec.ofNat 16 (getFlag p .C).toNat) &&& w.mask
  (r, setNZ (putFlag p .C (topBit v w)) r w)

/-- ROR's `f(v)` (R224). -/
def rorResult (p : Byte) (v : Word) (w : Width) : Word × Byte :=
  let r := (v >>> 1) ||| (BitVec.ofNat 16 (getFlag p .C).toNat <<< (w.bits - 1))
  (r, setNZ (putFlag p .C (v.getLsbD 0)) r w)

/-- INC's `f(v)` and the step of INX, INY (R261, R263, R264). -/
def incResult (p : Byte) (v : Word) (w : Width) : Word × Byte :=
  let r := (v + 1) &&& w.mask
  (r, setNZ p r w)

/-- DEC's `f(v)` and the step of DEX, DEY (R262, R265, R266). -/
def decResult (p : Byte) (v : Word) (w : Width) : Word × Byte :=
  let r := (v - 1) &&& w.mask
  (r, setNZ p r w)

/-- TSB's `f(m)` with `a = ReadA(w)` (R245): Z from `a & m` before the change. -/
def tsbResult (a : Word) (p : Byte) (m : Word) (_w : Width) : Word × Byte :=
  (m ||| a, testZ p a m)

/-- TRB's `f(m)` with `a = ReadA(w)` (R246). -/
def trbResult (a : Word) (p : Byte) (m : Word) (w : Width) : Word × Byte :=
  (m &&& (~~~a &&& w.mask), testZ p a m)

/-- The part of `SetP(v)` that acts on `P` (R29): `P.M` and `P.X` are held at 1 while `E = 1`. -/
def forceWidths (e : Bool) (p : Byte) : Byte :=
  if e then putFlag (putFlag p .M true) .X true else p

/-- An index register's value once `P` is `p`: its high byte is zero when `P.X = 1` (R23, R29). -/
def clipIndex (p : Byte) (v : Word) : Word :=
  if getFlag p .X then v &&& 0x00FF#16 else v

end Sys2Proof.Machine
end

