-- ==== Sys2Proof/Machine/Ops.lean ====
section
/-! DEFINITION. The named operations over registers and memory: the Memory Port (20_memory.md R60 to R65), register
access by width (10_state.md R21 to R29), the stack (R68 to R71), taking an interrupt (60_exceptions.md R387, R388) and
returning from one (48_processor_control.md R357), the sampling of the two latches and of `Waiting` (R90, R392), and
one byte of a block move (49_block_move.md R372). -/

namespace Sys2Proof.Machine

/-! ## The Memory Port -/

/-- What the port answers to the next `read_byte` at an address (R60): the scripted answer if there is one, else what
RAM holds. -/
def State.answer (s : State) (a : Addr) : Byte :=
  match s.script with
  | some b :: _ => b
  | none :: _ => Memory.read s.mem a.toNat
  | [] => Memory.read s.mem a.toNat

/-- `read_byte` (R60): the answer, and the state with the access on record. -/
def State.readByte (s : State) (a : Addr) : Byte × State :=
  (s.answer a, { s with script := s.script.tail, trace := .read a (s.answer a) :: s.trace })

/-- `write_byte` (R60): the access is on record and RAM holds the byte. -/
def State.writeByte (s : State) (a : Addr) (v : Byte) : State :=
  { s with mem := Memory.write s.mem a.toNat v, trace := .write a v :: s.trace }

/-- How the byte after an address is found (40_addressing_modes.md R120). -/
inductive Reach
  /-- `Lin`: at the next linear address, modulo 2^24. -/
  | lin
  /-- `Wrap`: at the next offset of the same bank, modulo 65536. -/
  | wrap
  deriving DecidableEq, Repr

/-- An effective address with its kind (R120). -/
structure EffAddr where
  addr : Addr
  reach : Reach
  deriving DecidableEq, Repr

/-- The address of the byte after. -/
def EffAddr.next (ea : EffAddr) : EffAddr :=
  match ea.reach with
  | .lin => ⟨ea.addr + 1, .lin⟩
  | .wrap => ⟨mkAddr (bankOf ea.addr) (offsetOf ea.addr + 1), .wrap⟩

/-- The address `{$00, o}`, wrapping in bank 0: direct page, stack, vectors (R64, R82). -/
def inBank0 (o : Word) : EffAddr :=
  ⟨mkAddr 0x00#8 o, .wrap⟩

/-- Read one byte (R62, R64 with `n = 1`). -/
def State.read8 (s : State) (ea : EffAddr) : Byte × State :=
  s.readByte ea.addr

/-- Read two bytes, low byte first (R62, R64 with `n = 2`; R66). -/
def State.read16 (s : State) (ea : EffAddr) : Word × State :=
  let l := s.read8 ea
  let h := l.2.read8 ea.next
  (mkWord h.1 l.1, h.2)

/-- Read three bytes, ascending (R62, R64 with `n = 3`). -/
def State.read24 (s : State) (ea : EffAddr) : Addr × State :=
  let o := s.read16 ea
  let b := o.2.read8 ea.next.next
  (mkAddr b.1 o.1, b.2)

/-- Write one byte (R63, R65 with `n = 1`). -/
def State.write8 (s : State) (ea : EffAddr) (v : Byte) : State :=
  s.writeByte ea.addr v

/-- Write two bytes, low byte first (R63, R65 with `n = 2`; R74). -/
def State.write16 (s : State) (ea : EffAddr) (v : Word) : State :=
  (s.write8 ea (lo8 v)).write8 ea.next (hi8 v)

/-- `ReadOp(EA, w)` (R120). -/
def State.readOp (s : State) (ea : EffAddr) (w : Width) : Word × State :=
  match w with
  | .w8 => ((s.read8 ea).1.zeroExtend 16, (s.read8 ea).2)
  | .w16 => s.read16 ea

/-- `WriteOp(EA, w, v)` (R120). -/
def State.writeOp (s : State) (ea : EffAddr) (w : Width) (v : Word) : State :=
  match w with
  | .w8 => s.write8 ea (lo8 v)
  | .w16 => s.write16 ea v

/-! ## Registers -/

/-- A flag of `P` (R26). -/
def State.flag (s : State) (f : Flag) : Bool :=
  getFlag s.P f

/-- `wM` (R9). -/
def State.wM (s : State) : Width :=
  widthOf (s.flag .M)

/-- `wX` (R9). -/
def State.wX (s : State) : Width :=
  widthOf (s.flag .X)

/-- Replace `P` by a status byte computed from it: the flag results of an operation, which need no `SetP` (R29). -/
def State.withP (s : State) (p : Byte) : State :=
  { s with P := p }

/-- `SetNZ(v, w)` (R28). -/
def State.setNZ (s : State) (v : Word) (w : Width) : State :=
  s.withP (Sys2Proof.Machine.setNZ s.P v w)

/-- `ReadA(w) = A & mask(w)` (R22). -/
def State.readA (s : State) (w : Width) : Word :=
  s.A &&& w.mask

/-- The accumulator's value after `WriteA(v, w)` (R22): at width 8 the high byte stays. -/
def mergeA (a v : Word) (w : Width) : Word :=
  match w with
  | .w8 => mkWord (hi8 a) (lo8 v)
  | .w16 => v

/-- `WriteA(v, w)` (R22). -/
def State.writeA (s : State) (v : Word) (w : Width) : State :=
  { s with A := mergeA s.A v w }

/-- An index register's value after `WriteX(v, w)` or `WriteY(v, w)` (R23): at width 8 the high byte is zero. -/
def indexValue (v : Word) (w : Width) : Word :=
  match w with
  | .w8 => (lo8 v).zeroExtend 16
  | .w16 => v

/-- `WriteX(v, w)` (R23). -/
def State.writeX (s : State) (v : Word) (w : Width) : State :=
  { s with X := indexValue v w }

/-- `WriteY(v, w)` (R23). -/
def State.writeY (s : State) (v : Word) (w : Width) : State :=
  { s with Y := indexValue v w }

/-- `SetP(v)` (R29), the only way `P` is written as a whole byte. -/
def State.setP (s : State) (v : Byte) : State :=
  let p := forceWidths s.E v
  { s with P := p, X := clipIndex p s.X, Y := clipIndex p s.Y }

/-- The stack pointer a value becomes when it is moved into `SP` (R176, R181): `SP.h = $01` while `E = 1` (R24). -/
def pinStack (e : Bool) (v : Word) : Word :=
  if e then mkWord 0x01#8 (lo8 v) else v

/-! ## The stack -/

/-- `SP` after a push (R68). -/
def stackDown (e : Bool) (sp : Word) : Word :=
  if e then mkWord 0x01#8 (lo8 sp - 1) else sp - 1

/-- `SP` before the read of a pull (R69). -/
def stackUp (e : Bool) (sp : Word) : Word :=
  if e then mkWord 0x01#8 (lo8 sp + 1) else sp + 1

/-- `Push8(v)` (R68). -/
def State.push8 (s : State) (v : Byte) : State :=
  { s.write8 (inBank0 s.SP) v with SP := stackDown s.E s.SP }

/-- `Push16(v)` (R70): the high byte first. -/
def State.push16 (s : State) (v : Word) : State :=
  (s.push8 (hi8 v)).push8 (lo8 v)

/-- `Pull8()` (R69). -/
def State.pull8 (s : State) : Byte × State :=
  { s with SP := stackUp s.E s.SP }.read8 (inBank0 (stackUp s.E s.SP))

/-- `Pull16()` (R71): the low byte first. -/
def State.pull16 (s : State) : Word × State :=
  let l := s.pull8
  let h := l.2.pull8
  (mkWord h.1 l.1, h.2)

/-- Push a register at a width (R311 to R313). -/
def State.pushW (s : State) (v : Word) (w : Width) : State :=
  match w with
  | .w8 => s.push8 (lo8 v)
  | .w16 => s.push16 v

/-- Pull a value of a width (R318 to R320). -/
def State.pullW (s : State) (w : Width) : Word × State :=
  match w with
  | .w8 => (s.pull8.1.zeroExtend 16, s.pull8.2)
  | .w16 => s.pull16

/-! ## Interrupts -/

/-- The four kinds of entry (R381, R388). -/
inductive InterruptKind
  | brk | cop | irq | nmi
  deriving DecidableEq, Repr

/-- `Vector(kind, E)` (R382). -/
def vector : InterruptKind → Bool → Word
  | .cop, true => 0xFFF4#16
  | .brk, true => 0xFFFE#16
  | .nmi, true => 0xFFFA#16
  | .irq, true => 0xFFFE#16
  | .cop, false => 0xFFE4#16
  | .brk, false => 0xFFE6#16
  | .nmi, false => 0xFFEA#16
  | .irq, false => 0xFFEE#16

/-- The reset vector's offset in bank 0 (R382, R420). -/
def resetVector : Word := 0xFFFC#16

/-- `Pimg(kind)`, the status byte pushed (R387). -/
def pushedStatus (kind : InterruptKind) (e : Bool) (p : Byte) : Byte :=
  match e, kind with
  | false, _ => p
  | true, .brk => p ||| 0x30#8
  | true, .cop => p ||| 0x30#8
  | true, .irq => (p ||| 0x20#8) &&& ~~~0x10#8
  | true, .nmi => (p ||| 0x20#8) &&& ~~~0x10#8

/-- The frame of an interrupt (R388): `PBR` in native mode only, `PC`, the status byte. -/
def State.pushFrame (s : State) (kind : InterruptKind) : State :=
  let s1 := if s.E then s else s.push8 s.PBR
  (s1.push16 s.PC).push8 (pushedStatus kind s.E s.P)

/-- `P` at the entry of a handler (R388): I set, D clear. -/
def handlerStatus (p : Byte) : Byte :=
  putFlag (putFlag p .I true) .D false

/-- `Interrupt(kind)`, the entry sequence (R388): taking an exception, the one operation BRK, COP, IRQ and NMI share. -/
def State.takeInterrupt (s : State) (kind : InterruptKind) : State :=
  let s1 := s.pushFrame kind
  let v := { s1 with P := handlerStatus s1.P, PBR := 0x00#8 }.read16 (inBank0 (vector kind s.E))
  { v.2 with PC := v.1 }

/-- Return from interrupt (R357, R391): `P` through `SetP`, `PC`, and `PBR` in native mode. -/
def State.returnFromInterrupt (s : State) : State :=
  let p := s.pull8
  let c := (p.2.setP p.1).pull16
  let t := { c.2 with PC := c.1 }
  if t.E then t
  else { t.pull8.2 with PBR := t.pull8.1 }

/-- Stage 2 of the step (R90, R392): `none` when the engine waits with nothing pending, else the state that goes on. -/
def State.wake (s : State) : Option State :=
  if s.waiting then
    if s.nmiPending || s.irqPending then some { s with waiting := false } else none
  else some s

/-- Stages 3 and 4 of the step (R90, R383 to R386): the state after the entry of the interrupt taken, if one is taken. -/
def State.service (s : State) : Option State :=
  if s.nmiPending then
    some ({ s with nmiPending := false, mv := .idle }.takeInterrupt .nmi)
  else if s.irqPending && !s.flag .I then
    some ({ s with irqPending := false, mv := .idle }.takeInterrupt .irq)
  else none

/-! ## Block moves -/

/-- An offset stepped by a direction, modulo `2^w` (R372). -/
def stepOffset (dir : Direction) (v : Word) (w : Width) : Word :=
  match dir with
  | .up => (v + 1) &&& w.mask
  | .down => (v - 1) &&& w.mask

/-- `BlockStep(dir, dst, src)`, one byte of a block move (R372). -/
def State.blockStep (s : State) (dir : Direction) (dst src : Byte) : State :=
  let r := s.read8 ⟨mkAddr src s.X, .lin⟩
  let t := r.2.write8 ⟨mkAddr dst s.Y, .lin⟩ r.1
  let u := { t with X := stepOffset dir s.X s.wX, Y := stepOffset dir s.Y s.wX, A := s.A - 1 }
  if s.A - 1 = 0xFFFF#16 then { u with PC := s.PC + 3, DBR := dst, mv := .idle } else u

end Sys2Proof.Machine
end

