-- ==== Sys2Proof/Machine/Operands.lean ====
section
/-! DEFINITION. The addressing-mode resolver (40_addressing_modes.md): every operand form, as a function of its fields and
of the state, and the access patterns the families share (R160 `Operand(w)`, R225 read-modify-write). -/

namespace Sys2Proof.Machine

/-- `(D + dp) mod 65536` (R122). -/
def State.directOffset (s : State) (dp : Byte) : Word :=
  s.D + dp.zeroExtend 16

/-- `(SP + sr) mod 65536` (R135). -/
def State.stackOffset (s : State) (sr : Byte) : Word :=
  s.SP + sr.zeroExtend 16

/-- `({DBR, o} + index) mod 2^24` (R126, R132). -/
def State.dataAddr (s : State) (o index : Word) : EffAddr :=
  ⟨mkAddr s.DBR o + index.zeroExtend 24, .lin⟩

/-- The effective address of a memory form, and the state after its pointer reads (R120, R122 to R136). -/
def State.resolve (s : State) : DataMode → EffAddr × State
  | .dp dp => (inBank0 (s.directOffset dp), s)
  | .dpX dp => (inBank0 (s.directOffset dp + s.X), s)
  | .dpY dp => (inBank0 (s.directOffset dp + s.Y), s)
  | .abs addr => (s.dataAddr addr 0, s)
  | .absX addr => (s.dataAddr addr s.X, s)
  | .absY addr => (s.dataAddr addr s.Y, s)
  | .long long => (⟨long, .lin⟩, s)
  | .longX long => (⟨long + s.X.zeroExtend 24, .lin⟩, s)
  | .idp dp =>
    let ptr := s.read16 (inBank0 (s.directOffset dp))
    (s.dataAddr ptr.1 0, ptr.2)
  | .idpX dp =>
    let ptr := s.read16 (inBank0 (s.directOffset dp + s.X))
    (s.dataAddr ptr.1 0, ptr.2)
  | .idpY dp =>
    let ptr := s.read16 (inBank0 (s.directOffset dp))
    (s.dataAddr ptr.1 s.Y, ptr.2)
  | .ildp dp =>
    let ptr := s.read24 (inBank0 (s.directOffset dp))
    (⟨ptr.1, .lin⟩, ptr.2)
  | .ildpY dp =>
    let ptr := s.read24 (inBank0 (s.directOffset dp))
    (⟨ptr.1 + s.Y.zeroExtend 24, .lin⟩, ptr.2)
  | .sr sr => (inBank0 (s.stackOffset sr), s)
  | .isrY sr =>
    let ptr := s.read16 (inBank0 (s.stackOffset sr))
    (s.dataAddr ptr.1 s.Y, ptr.2)

/-- The literal of an immediate at a width (R121). The decoder makes literals of that width only; on another width, which
no step meets, it is cut or zero-extended: DESIGN CHOICE, notes/assumptions/6.md. -/
def Imm.valueAt (v : Imm) (w : Width) : Word :=
  match v with
  | .b8 b => b.zeroExtend 16
  | .b16 x => x &&& w.mask

/-- `Operand(w)` (R160): the immediate, or the value read at the effective address; and the state after the reads. -/
def State.readSource (s : State) (src : Source) (w : Width) : Word × State :=
  match src with
  | .imm v => (Imm.valueAt v w, s)
  | .mem mode => (s.resolve mode).2.readOp (s.resolve mode).1 w

/-- Store a value at a memory form (R164 to R167). -/
def State.storeAt (s : State) (mode : DataMode) (w : Width) (v : Word) : State :=
  (s.resolve mode).2.writeOp (s.resolve mode).1 w v

/-- `RMW(f)` at width `wM` (R225): `f` takes the status byte, the value and the width to the result and the new status
byte. The address is resolved once; the location is read once and then written once. -/
def State.modify (s : State) (tgt : Target) (f : Byte → Word → Width → Word × Byte) : State :=
  match tgt with
  | .acc =>
    let r := f s.P (s.readA s.wM) s.wM
    (s.writeA r.1 s.wM).withP r.2
  | .mem mode =>
    let ea := s.resolve mode
    let v := ea.2.readOp ea.1 s.wM
    let r := f s.P v.1 s.wM
    (v.2.withP r.2).writeOp ea.1 s.wM r.1

/-- The target of a relative branch (R143): `PC` is already past the instruction. -/
def relative8 (pc : Word) (disp : Byte) : Word :=
  pc + disp.signExtend 16

/-- The target of BRL and the value of PER (R144). -/
def relative16 (pc : Word) (disp : Word) : Word :=
  pc + disp

/-! ## The resolver's extra-cycle flag (R146), which only `Cycles` reads -/

/-- (a) A direct-page form with `D.l ≠ 0` (R146, R439). -/
def State.directExtra (s : State) : DataMode → Bool
  | .dp _ => decide (lo8 s.D ≠ 0)
  | .dpX _ => decide (lo8 s.D ≠ 0)
  | .dpY _ => decide (lo8 s.D ≠ 0)
  | .idp _ => decide (lo8 s.D ≠ 0)
  | .idpX _ => decide (lo8 s.D ≠ 0)
  | .idpY _ => decide (lo8 s.D ≠ 0)
  | .ildp _ => decide (lo8 s.D ≠ 0)
  | .ildpY _ => decide (lo8 s.D ≠ 0)
  | .sr _ => false
  | .isrY _ => false
  | .abs _ => false
  | .absX _ => false
  | .absY _ => false
  | .long _ => false
  | .longX _ => false

/-- An index carries a base offset into another 256-byte page. -/
def crossesPage (base index : Word) : Bool :=
  decide (hi8 base ≠ hi8 (base + index))

/-- (b), (c) A page crossing of `abs,X`, `abs,Y` or `(dp),Y` in 8-bit index mode (R146). -/
def State.pageExtra (s : State) : DataMode → Bool
  | .absX addr => s.flag .X && crossesPage addr s.X
  | .absY addr => s.flag .X && crossesPage addr s.Y
  | .idpY dp => s.flag .X && crossesPage (s.read16 (inBank0 (s.directOffset dp))).1 s.Y
  | .dp _ => false
  | .dpX _ => false
  | .dpY _ => false
  | .idp _ => false
  | .idpX _ => false
  | .ildp _ => false
  | .ildpY _ => false
  | .sr _ => false
  | .isrY _ => false
  | .abs _ => false
  | .long _ => false
  | .longX _ => false

end Sys2Proof.Machine
end

