-- ==== Sys2Proof/Machine/Alu.lean ====
section
/-! DEFINITION. Logic, add and subtract (42_arithmetic_logic.md R200 to R210). -/

namespace Sys2Proof.Machine

/-- The common part of the accumulator operations (R200): `f` takes the status byte, `a`, `m` and the width to the result
and the new status byte. The operand is read once; memory is never written. -/
def State.accumulate (s : State) (f : Byte → Word → Word → Width → Word × Byte) (src : Source) : State :=
  let m := s.readSource src s.wM
  let r := f s.P (s.readA s.wM) m.1 s.wM
  (m.2.writeA r.1 s.wM).withP r.2

/-- ORA (R201). -/
def ora (src : Source) (s : State) : State :=
  s.accumulate (fun p a m w => logicResult p (a ||| m) w) src

/-- `$01` ORA (dp,X) (R201). -/
def execOraIDpX (dp : Byte) (s : State) : Host.Outcome State Fault Refusal :=
  .next (ora (.mem (.idpX dp)) s)

/-- `$03` ORA sr,S (R201). -/
def execOraSr (sr : Byte) (s : State) : Host.Outcome State Fault Refusal :=
  .next (ora (.mem (.sr sr)) s)

/-- `$05` ORA dp (R201). -/
def execOraDp (dp : Byte) (s : State) : Host.Outcome State Fault Refusal :=
  .next (ora (.mem (.dp dp)) s)

/-- `$07` ORA [dp] (R201). -/
def execOraILDp (dp : Byte) (s : State) : Host.Outcome State Fault Refusal :=
  .next (ora (.mem (.ildp dp)) s)

/-- `$09` ORA #m (R201). -/
def execOraImm (imm : Imm) (s : State) : Host.Outcome State Fault Refusal :=
  .next (ora (.imm imm) s)

/-- `$0D` ORA abs (R201). -/
def execOraAbs (addr : Word) (s : State) : Host.Outcome State Fault Refusal :=
  .next (ora (.mem (.abs addr)) s)

/-- `$0F` ORA long (R201). -/
def execOraLong (long : Addr) (s : State) : Host.Outcome State Fault Refusal :=
  .next (ora (.mem (.long long)) s)

/-- `$11` ORA (dp),Y (R201). -/
def execOraIDpY (dp : Byte) (s : State) : Host.Outcome State Fault Refusal :=
  .next (ora (.mem (.idpY dp)) s)

/-- `$12` ORA (dp) (R201). -/
def execOraIDp (dp : Byte) (s : State) : Host.Outcome State Fault Refusal :=
  .next (ora (.mem (.idp dp)) s)

/-- `$13` ORA (sr,S),Y (R201). -/
def execOraISrY (sr : Byte) (s : State) : Host.Outcome State Fault Refusal :=
  .next (ora (.mem (.isrY sr)) s)

/-- `$15` ORA dp,X (R201). -/
def execOraDpX (dp : Byte) (s : State) : Host.Outcome State Fault Refusal :=
  .next (ora (.mem (.dpX dp)) s)

/-- `$17` ORA [dp],Y (R201). -/
def execOraILDpY (dp : Byte) (s : State) : Host.Outcome State Fault Refusal :=
  .next (ora (.mem (.ildpY dp)) s)

/-- `$19` ORA abs,Y (R201). -/
def execOraAbsY (addr : Word) (s : State) : Host.Outcome State Fault Refusal :=
  .next (ora (.mem (.absY addr)) s)

/-- `$1D` ORA abs,X (R201). -/
def execOraAbsX (addr : Word) (s : State) : Host.Outcome State Fault Refusal :=
  .next (ora (.mem (.absX addr)) s)

/-- `$1F` ORA long,X (R201). -/
def execOraLongX (long : Addr) (s : State) : Host.Outcome State Fault Refusal :=
  .next (ora (.mem (.longX long)) s)

/-- AND (R202). -/
def andA (src : Source) (s : State) : State :=
  s.accumulate (fun p a m w => logicResult p (a &&& m) w) src

/-- `$21` AND (dp,X) (R202). -/
def execAndIDpX (dp : Byte) (s : State) : Host.Outcome State Fault Refusal :=
  .next (andA (.mem (.idpX dp)) s)

/-- `$23` AND sr,S (R202). -/
def execAndSr (sr : Byte) (s : State) : Host.Outcome State Fault Refusal :=
  .next (andA (.mem (.sr sr)) s)

/-- `$25` AND dp (R202). -/
def execAndDp (dp : Byte) (s : State) : Host.Outcome State Fault Refusal :=
  .next (andA (.mem (.dp dp)) s)

/-- `$27` AND [dp] (R202). -/
def execAndILDp (dp : Byte) (s : State) : Host.Outcome State Fault Refusal :=
  .next (andA (.mem (.ildp dp)) s)

/-- `$29` AND #m (R202). -/
def execAndImm (imm : Imm) (s : State) : Host.Outcome State Fault Refusal :=
  .next (andA (.imm imm) s)

/-- `$2D` AND abs (R202). -/
def execAndAbs (addr : Word) (s : State) : Host.Outcome State Fault Refusal :=
  .next (andA (.mem (.abs addr)) s)

/-- `$2F` AND long (R202). -/
def execAndLong (long : Addr) (s : State) : Host.Outcome State Fault Refusal :=
  .next (andA (.mem (.long long)) s)

/-- `$31` AND (dp),Y (R202). -/
def execAndIDpY (dp : Byte) (s : State) : Host.Outcome State Fault Refusal :=
  .next (andA (.mem (.idpY dp)) s)

/-- `$32` AND (dp) (R202). -/
def execAndIDp (dp : Byte) (s : State) : Host.Outcome State Fault Refusal :=
  .next (andA (.mem (.idp dp)) s)

/-- `$33` AND (sr,S),Y (R202). -/
def execAndISrY (sr : Byte) (s : State) : Host.Outcome State Fault Refusal :=
  .next (andA (.mem (.isrY sr)) s)

/-- `$35` AND dp,X (R202). -/
def execAndDpX (dp : Byte) (s : State) : Host.Outcome State Fault Refusal :=
  .next (andA (.mem (.dpX dp)) s)

/-- `$37` AND [dp],Y (R202). -/
def execAndILDpY (dp : Byte) (s : State) : Host.Outcome State Fault Refusal :=
  .next (andA (.mem (.ildpY dp)) s)

/-- `$39` AND abs,Y (R202). -/
def execAndAbsY (addr : Word) (s : State) : Host.Outcome State Fault Refusal :=
  .next (andA (.mem (.absY addr)) s)

/-- `$3D` AND abs,X (R202). -/
def execAndAbsX (addr : Word) (s : State) : Host.Outcome State Fault Refusal :=
  .next (andA (.mem (.absX addr)) s)

/-- `$3F` AND long,X (R202). -/
def execAndLongX (long : Addr) (s : State) : Host.Outcome State Fault Refusal :=
  .next (andA (.mem (.longX long)) s)

/-- EOR (R203). -/
def eor (src : Source) (s : State) : State :=
  s.accumulate (fun p a m w => logicResult p (a ^^^ m) w) src

/-- `$41` EOR (dp,X) (R203). -/
def execEorIDpX (dp : Byte) (s : State) : Host.Outcome State Fault Refusal :=
  .next (eor (.mem (.idpX dp)) s)

/-- `$43` EOR sr,S (R203). -/
def execEorSr (sr : Byte) (s : State) : Host.Outcome State Fault Refusal :=
  .next (eor (.mem (.sr sr)) s)

/-- `$45` EOR dp (R203). -/
def execEorDp (dp : Byte) (s : State) : Host.Outcome State Fault Refusal :=
  .next (eor (.mem (.dp dp)) s)

/-- `$47` EOR [dp] (R203). -/
def execEorILDp (dp : Byte) (s : State) : Host.Outcome State Fault Refusal :=
  .next (eor (.mem (.ildp dp)) s)

/-- `$49` EOR #m (R203). -/
def execEorImm (imm : Imm) (s : State) : Host.Outcome State Fault Refusal :=
  .next (eor (.imm imm) s)

/-- `$4D` EOR abs (R203). -/
def execEorAbs (addr : Word) (s : State) : Host.Outcome State Fault Refusal :=
  .next (eor (.mem (.abs addr)) s)

/-- `$4F` EOR long (R203). -/
def execEorLong (long : Addr) (s : State) : Host.Outcome State Fault Refusal :=
  .next (eor (.mem (.long long)) s)

/-- `$51` EOR (dp),Y (R203). -/
def execEorIDpY (dp : Byte) (s : State) : Host.Outcome State Fault Refusal :=
  .next (eor (.mem (.idpY dp)) s)

/-- `$52` EOR (dp) (R203). -/
def execEorIDp (dp : Byte) (s : State) : Host.Outcome State Fault Refusal :=
  .next (eor (.mem (.idp dp)) s)

/-- `$53` EOR (sr,S),Y (R203). -/
def execEorISrY (sr : Byte) (s : State) : Host.Outcome State Fault Refusal :=
  .next (eor (.mem (.isrY sr)) s)

/-- `$55` EOR dp,X (R203). -/
def execEorDpX (dp : Byte) (s : State) : Host.Outcome State Fault Refusal :=
  .next (eor (.mem (.dpX dp)) s)

/-- `$57` EOR [dp],Y (R203). -/
def execEorILDpY (dp : Byte) (s : State) : Host.Outcome State Fault Refusal :=
  .next (eor (.mem (.ildpY dp)) s)

/-- `$59` EOR abs,Y (R203). -/
def execEorAbsY (addr : Word) (s : State) : Host.Outcome State Fault Refusal :=
  .next (eor (.mem (.absY addr)) s)

/-- `$5D` EOR abs,X (R203). -/
def execEorAbsX (addr : Word) (s : State) : Host.Outcome State Fault Refusal :=
  .next (eor (.mem (.absX addr)) s)

/-- `$5F` EOR long,X (R203). -/
def execEorLongX (long : Addr) (s : State) : Host.Outcome State Fault Refusal :=
  .next (eor (.mem (.longX long)) s)

/-- ADC (R204). -/
def adc (src : Source) (s : State) : State :=
  s.accumulate adcResult src

/-- `$61` ADC (dp,X) (R204). -/
def execAdcIDpX (dp : Byte) (s : State) : Host.Outcome State Fault Refusal :=
  .next (adc (.mem (.idpX dp)) s)

/-- `$63` ADC sr,S (R204). -/
def execAdcSr (sr : Byte) (s : State) : Host.Outcome State Fault Refusal :=
  .next (adc (.mem (.sr sr)) s)

/-- `$65` ADC dp (R204). -/
def execAdcDp (dp : Byte) (s : State) : Host.Outcome State Fault Refusal :=
  .next (adc (.mem (.dp dp)) s)

/-- `$67` ADC [dp] (R204). -/
def execAdcILDp (dp : Byte) (s : State) : Host.Outcome State Fault Refusal :=
  .next (adc (.mem (.ildp dp)) s)

/-- `$69` ADC #m (R204). -/
def execAdcImm (imm : Imm) (s : State) : Host.Outcome State Fault Refusal :=
  .next (adc (.imm imm) s)

/-- `$6D` ADC abs (R204). -/
def execAdcAbs (addr : Word) (s : State) : Host.Outcome State Fault Refusal :=
  .next (adc (.mem (.abs addr)) s)

/-- `$6F` ADC long (R204). -/
def execAdcLong (long : Addr) (s : State) : Host.Outcome State Fault Refusal :=
  .next (adc (.mem (.long long)) s)

/-- `$71` ADC (dp),Y (R204). -/
def execAdcIDpY (dp : Byte) (s : State) : Host.Outcome State Fault Refusal :=
  .next (adc (.mem (.idpY dp)) s)

/-- `$72` ADC (dp) (R204). -/
def execAdcIDp (dp : Byte) (s : State) : Host.Outcome State Fault Refusal :=
  .next (adc (.mem (.idp dp)) s)

/-- `$73` ADC (sr,S),Y (R204). -/
def execAdcISrY (sr : Byte) (s : State) : Host.Outcome State Fault Refusal :=
  .next (adc (.mem (.isrY sr)) s)

/-- `$75` ADC dp,X (R204). -/
def execAdcDpX (dp : Byte) (s : State) : Host.Outcome State Fault Refusal :=
  .next (adc (.mem (.dpX dp)) s)

/-- `$77` ADC [dp],Y (R204). -/
def execAdcILDpY (dp : Byte) (s : State) : Host.Outcome State Fault Refusal :=
  .next (adc (.mem (.ildpY dp)) s)

/-- `$79` ADC abs,Y (R204). -/
def execAdcAbsY (addr : Word) (s : State) : Host.Outcome State Fault Refusal :=
  .next (adc (.mem (.absY addr)) s)

/-- `$7D` ADC abs,X (R204). -/
def execAdcAbsX (addr : Word) (s : State) : Host.Outcome State Fault Refusal :=
  .next (adc (.mem (.absX addr)) s)

/-- `$7F` ADC long,X (R204). -/
def execAdcLongX (long : Addr) (s : State) : Host.Outcome State Fault Refusal :=
  .next (adc (.mem (.longX long)) s)

/-- SBC (R205). -/
def sbc (src : Source) (s : State) : State :=
  s.accumulate sbcResult src

/-- `$E1` SBC (dp,X) (R205). -/
def execSbcIDpX (dp : Byte) (s : State) : Host.Outcome State Fault Refusal :=
  .next (sbc (.mem (.idpX dp)) s)

/-- `$E3` SBC sr,S (R205). -/
def execSbcSr (sr : Byte) (s : State) : Host.Outcome State Fault Refusal :=
  .next (sbc (.mem (.sr sr)) s)

/-- `$E5` SBC dp (R205). -/
def execSbcDp (dp : Byte) (s : State) : Host.Outcome State Fault Refusal :=
  .next (sbc (.mem (.dp dp)) s)

/-- `$E7` SBC [dp] (R205). -/
def execSbcILDp (dp : Byte) (s : State) : Host.Outcome State Fault Refusal :=
  .next (sbc (.mem (.ildp dp)) s)

/-- `$E9` SBC #m (R205). -/
def execSbcImm (imm : Imm) (s : State) : Host.Outcome State Fault Refusal :=
  .next (sbc (.imm imm) s)

/-- `$ED` SBC abs (R205). -/
def execSbcAbs (addr : Word) (s : State) : Host.Outcome State Fault Refusal :=
  .next (sbc (.mem (.abs addr)) s)

/-- `$EF` SBC long (R205). -/
def execSbcLong (long : Addr) (s : State) : Host.Outcome State Fault Refusal :=
  .next (sbc (.mem (.long long)) s)

/-- `$F1` SBC (dp),Y (R205). -/
def execSbcIDpY (dp : Byte) (s : State) : Host.Outcome State Fault Refusal :=
  .next (sbc (.mem (.idpY dp)) s)

/-- `$F2` SBC (dp) (R205). -/
def execSbcIDp (dp : Byte) (s : State) : Host.Outcome State Fault Refusal :=
  .next (sbc (.mem (.idp dp)) s)

/-- `$F3` SBC (sr,S),Y (R205). -/
def execSbcISrY (sr : Byte) (s : State) : Host.Outcome State Fault Refusal :=
  .next (sbc (.mem (.isrY sr)) s)

/-- `$F5` SBC dp,X (R205). -/
def execSbcDpX (dp : Byte) (s : State) : Host.Outcome State Fault Refusal :=
  .next (sbc (.mem (.dpX dp)) s)

/-- `$F7` SBC [dp],Y (R205). -/
def execSbcILDpY (dp : Byte) (s : State) : Host.Outcome State Fault Refusal :=
  .next (sbc (.mem (.ildpY dp)) s)

/-- `$F9` SBC abs,Y (R205). -/
def execSbcAbsY (addr : Word) (s : State) : Host.Outcome State Fault Refusal :=
  .next (sbc (.mem (.absY addr)) s)

/-- `$FD` SBC abs,X (R205). -/
def execSbcAbsX (addr : Word) (s : State) : Host.Outcome State Fault Refusal :=
  .next (sbc (.mem (.absX addr)) s)

/-- `$FF` SBC long,X (R205). -/
def execSbcLongX (long : Addr) (s : State) : Host.Outcome State Fault Refusal :=
  .next (sbc (.mem (.longX long)) s)

end Sys2Proof.Machine
end

