-- ==== Sys2Proof/Machine/BlockMove.lean ====
section
/-! DEFINITION. Block moves: the first step of MVN and MVP (49_block_move.md R370 to R375). The later steps are stage 5 of the
step (30_encoding.md R90). -/

namespace Sys2Proof.Machine

/-- The first step of MVN and MVP (R373, R374): `PC` goes back to the opcode, which stands three bytes before the next
instruction (R101; DEDUCED, notes/assumptions/5.md), the operand bytes are latched, and the first byte is moved. -/
def State.blockMove (s : State) (dir : Direction) (dst src : Byte) : State :=
  { s with PC := s.PC - 3, mv := .active dir dst src }.blockStep dir dst src

/-- `$54` MVN src,dst (R373). -/
def execMvn (dst : Byte) (src : Byte) (s : State) : Host.Outcome State Fault Refusal :=
  .next (s.blockMove .up dst src)

/-- `$44` MVP src,dst (R374). -/
def execMvp (dst : Byte) (src : Byte) (s : State) : Host.Outcome State Fault Refusal :=
  .next (s.blockMove .down dst src)

end Sys2Proof.Machine
end

