-- ==== Sys2Proof/Machine/Branch.lean ====
section
/-! DEFINITION. Branches, jumps, calls and returns (46_branch_jump.md R280 to R298). -/

namespace Sys2Proof.Machine

/-- The common rule of the 8-bit branches (R281). -/
def State.branchIf (s : State) (cond : Bool) (disp : Byte) : State :=
  if cond then { s with PC := relative8 s.PC disp } else s

/-- `$10` BPL rel8 (R282). -/
def execBpl (disp : Byte) (s : State) : Host.Outcome State Fault Refusal :=
  .next (s.branchIf (!s.flag .N) disp)

/-- `$30` BMI rel8 (R283). -/
def execBmi (disp : Byte) (s : State) : Host.Outcome State Fault Refusal :=
  .next (s.branchIf (s.flag .N) disp)

/-- `$50` BVC rel8 (R284). -/
def execBvc (disp : Byte) (s : State) : Host.Outcome State Fault Refusal :=
  .next (s.branchIf (!s.flag .V) disp)

/-- `$70` BVS rel8 (R285). -/
def execBvs (disp : Byte) (s : State) : Host.Outcome State Fault Refusal :=
  .next (s.branchIf (s.flag .V) disp)

/-- `$90` BCC rel8 (R286). -/
def execBcc (disp : Byte) (s : State) : Host.Outcome State Fault Refusal :=
  .next (s.branchIf (!s.flag .C) disp)

/-- `$B0` BCS rel8 (R287). -/
def execBcs (disp : Byte) (s : State) : Host.Outcome State Fault Refusal :=
  .next (s.branchIf (s.flag .C) disp)

/-- `$D0` BNE rel8 (R288). -/
def execBne (disp : Byte) (s : State) : Host.Outcome State Fault Refusal :=
  .next (s.branchIf (!s.flag .Z) disp)

/-- `$F0` BEQ rel8 (R289). -/
def execBeq (disp : Byte) (s : State) : Host.Outcome State Fault Refusal :=
  .next (s.branchIf (s.flag .Z) disp)

/-- `$80` BRA rel8 (R290). -/
def execBra (disp : Byte) (s : State) : Host.Outcome State Fault Refusal :=
  .next (s.branchIf true disp)

/-- `$82` BRL rel16 (R291). -/
def execBrl (disp : Word) (s : State) : Host.Outcome State Fault Refusal :=
  .next { s with PC := relative16 s.PC disp }

/-- `PC` loaded from a two-byte pointer (R137, R138). -/
def State.jumpThrough (s : State) (ea : EffAddr) : State :=
  let t := s.read16 ea
  { t.2 with PC := t.1 }

/-- The pointer's place of the `(abs,X)` jumps (R138): in the program bank, wrapping inside it. -/
def State.programPointer (s : State) (addr : Word) : EffAddr :=
  ⟨mkAddr s.PBR (addr + s.X), .wrap⟩

/-- The return offset of JSR and JSL, the last byte of the instruction (R294, R295). -/
def State.pushReturn (s : State) : State :=
  s.push16 (s.PC - 1)

/-- `$4C` JMP abs (R292). -/
def execJmpAbs (addr : Word) (s : State) : Host.Outcome State Fault Refusal :=
  .next { s with PC := addr }

/-- `$6C` JMP (abs) (R292). -/
def execJmpIAbs (addr : Word) (s : State) : Host.Outcome State Fault Refusal :=
  .next (s.jumpThrough (inBank0 addr))

/-- `$7C` JMP (abs,X) (R292). -/
def execJmpIAbsX (addr : Word) (s : State) : Host.Outcome State Fault Refusal :=
  .next (s.jumpThrough (s.programPointer addr))

/-- `$5C` JML long (R293). -/
def execJmlLong (long : Addr) (s : State) : Host.Outcome State Fault Refusal :=
  .next { s with PC := offsetOf long, PBR := bankOf long }

/-- `JML [abs]` (R139): the three-byte pointer is read in bank 0. -/
def jumpLongThrough (addr : Word) (s : State) : State :=
  let t := s.read24 (inBank0 addr)
  { t.2 with PC := offsetOf t.1, PBR := bankOf t.1 }

/-- `$DC` JML [abs] (R293). -/
def execJmlILAbs (addr : Word) (s : State) : Host.Outcome State Fault Refusal :=
  .next (jumpLongThrough addr s)

/-- `$20` JSR abs (R294). -/
def execJsrAbs (addr : Word) (s : State) : Host.Outcome State Fault Refusal :=
  .next { s.pushReturn with PC := addr }

/-- `$FC` JSR (abs,X) (R294). -/
def execJsrIAbsX (addr : Word) (s : State) : Host.Outcome State Fault Refusal :=
  .next (s.pushReturn.jumpThrough (s.programPointer addr))

/-- `$22` JSL long (R295). -/
def execJsl (long : Addr) (s : State) : Host.Outcome State Fault Refusal :=
  .next { (s.push8 s.PBR).pushReturn with PC := offsetOf long, PBR := bankOf long }

/-- RTS (R296). -/
def returnShort (s : State) : State :=
  let r := s.pull16
  { r.2 with PC := r.1 + 1 }

/-- RTL (R297): the increment does not carry into `PBR`. -/
def returnLong (s : State) : State :=
  let r := s.pull16
  let b := r.2.pull8
  { b.2 with PC := r.1 + 1, PBR := b.1 }

/-- `$60` RTS (R296). -/
def execRts (s : State) : Host.Outcome State Fault Refusal :=
  .next (returnShort s)

/-- `$6B` RTL (R297). -/
def execRtl (s : State) : Host.Outcome State Fault Refusal :=
  .next (returnLong s)

end Sys2Proof.Machine
end

