-- ==== Sys2Proof/Machine/Compare.lean ====
section
/-! DEFINITION. Compares and bit tests (44_compare_bit.md R240 to R246). -/

namespace Sys2Proof.Machine

/-- The compares (R241 to R243): a register's value `a` against the operand, at width `w`. -/
def State.compare (s : State) (a : Word) (w : Width) (src : Source) : State :=
  let m := s.readSource src w
  m.2.withP (compareFlags s.P a m.1 w)

/-- CMP (R241). -/
def cmp (src : Source) (s : State) : State :=
  s.compare (s.readA s.wM) s.wM src

/-- `$C1` CMP (dp,X) (R241). -/
def execCmpIDpX (dp : Byte) (s : State) : Host.Outcome State Fault Refusal :=
  .next (cmp (.mem (.idpX dp)) s)

/-- `$C3` CMP sr,S (R241). -/
def execCmpSr (sr : Byte) (s : State) : Host.Outcome State Fault Refusal :=
  .next (cmp (.mem (.sr sr)) s)

/-- `$C5` CMP dp (R241). -/
def execCmpDp (dp : Byte) (s : State) : Host.Outcome State Fault Refusal :=
  .next (cmp (.mem (.dp dp)) s)

/-- `$C7` CMP [dp] (R241). -/
def execCmpILDp (dp : Byte) (s : State) : Host.Outcome State Fault Refusal :=
  .next (cmp (.mem (.ildp dp)) s)

/-- `$C9` CMP #m (R241). -/
def execCmpImm (imm : Imm) (s : State) : Host.Outcome State Fault Refusal :=
  .next (cmp (.imm imm) s)

/-- `$CD` CMP abs (R241). -/
def execCmpAbs (addr : Word) (s : State) : Host.Outcome State Fault Refusal :=
  .next (cmp (.mem (.abs addr)) s)

/-- `$CF` CMP long (R241). -/
def execCmpLong (long : Addr) (s : State) : Host.Outcome State Fault Refusal :=
  .next (cmp (.mem (.long long)) s)

/-- `$D1` CMP (dp),Y (R241). -/
def execCmpIDpY (dp : Byte) (s : State) : Host.Outcome State Fault Refusal :=
  .next (cmp (.mem (.idpY dp)) s)

/-- `$D2` CMP (dp) (R241). -/
def execCmpIDp (dp : Byte) (s : State) : Host.Outcome State Fault Refusal :=
  .next (cmp (.mem (.idp dp)) s)

/-- `$D3` CMP (sr,S),Y (R241). -/
def execCmpISrY (sr : Byte) (s : State) : Host.Outcome State Fault Refusal :=
  .next (cmp (.mem (.isrY sr)) s)

/-- `$D5` CMP dp,X (R241). -/
def execCmpDpX (dp : Byte) (s : State) : Host.Outcome State Fault Refusal :=
  .next (cmp (.mem (.dpX dp)) s)

/-- `$D7` CMP [dp],Y (R241). -/
def execCmpILDpY (dp : Byte) (s : State) : Host.Outcome State Fault Refusal :=
  .next (cmp (.mem (.ildpY dp)) s)

/-- `$D9` CMP abs,Y (R241). -/
def execCmpAbsY (addr : Word) (s : State) : Host.Outcome State Fault Refusal :=
  .next (cmp (.mem (.absY addr)) s)

/-- `$DD` CMP abs,X (R241). -/
def execCmpAbsX (addr : Word) (s : State) : Host.Outcome State Fault Refusal :=
  .next (cmp (.mem (.absX addr)) s)

/-- `$DF` CMP long,X (R241). -/
def execCmpLongX (long : Addr) (s : State) : Host.Outcome State Fault Refusal :=
  .next (cmp (.mem (.longX long)) s)

/-- CPX (R242). -/
def cpx (src : Source) (s : State) : State :=
  s.compare (s.X &&& s.wX.mask) s.wX src

/-- `$E0` CPX #x (R242). -/
def execCpxImm (imm : Imm) (s : State) : Host.Outcome State Fault Refusal :=
  .next (cpx (.imm imm) s)

/-- `$E4` CPX dp (R242). -/
def execCpxDp (dp : Byte) (s : State) : Host.Outcome State Fault Refusal :=
  .next (cpx (.mem (.dp dp)) s)

/-- `$EC` CPX abs (R242). -/
def execCpxAbs (addr : Word) (s : State) : Host.Outcome State Fault Refusal :=
  .next (cpx (.mem (.abs addr)) s)

/-- CPY (R243). -/
def cpy (src : Source) (s : State) : State :=
  s.compare (s.Y &&& s.wX.mask) s.wX src

/-- `$C0` CPY #x (R243). -/
def execCpyImm (imm : Imm) (s : State) : Host.Outcome State Fault Refusal :=
  .next (cpy (.imm imm) s)

/-- `$C4` CPY dp (R243). -/
def execCpyDp (dp : Byte) (s : State) : Host.Outcome State Fault Refusal :=
  .next (cpy (.mem (.dp dp)) s)

/-- `$CC` CPY abs (R243). -/
def execCpyAbs (addr : Word) (s : State) : Host.Outcome State Fault Refusal :=
  .next (cpy (.mem (.abs addr)) s)

/-- BIT (R244): the immediate form writes Z only, the memory forms Z, N and V. -/
def bit (src : Source) (s : State) : State :=
  let m := s.readSource src s.wM
  match src with
  | .imm _ => m.2.withP (testZ s.P (s.readA s.wM) m.1)
  | .mem _ => m.2.withP (bitFlags s.P (s.readA s.wM) m.1 s.wM)

/-- `$24` BIT dp (R244). -/
def execBitDp (dp : Byte) (s : State) : Host.Outcome State Fault Refusal :=
  .next (bit (.mem (.dp dp)) s)

/-- `$2C` BIT abs (R244). -/
def execBitAbs (addr : Word) (s : State) : Host.Outcome State Fault Refusal :=
  .next (bit (.mem (.abs addr)) s)

/-- `$34` BIT dp,X (R244). -/
def execBitDpX (dp : Byte) (s : State) : Host.Outcome State Fault Refusal :=
  .next (bit (.mem (.dpX dp)) s)

/-- `$3C` BIT abs,X (R244). -/
def execBitAbsX (addr : Word) (s : State) : Host.Outcome State Fault Refusal :=
  .next (bit (.mem (.absX addr)) s)

/-- `$89` BIT #m (R244). -/
def execBitImm (imm : Imm) (s : State) : Host.Outcome State Fault Refusal :=
  .next (bit (.imm imm) s)

/-- TSB (R245). -/
def tsb (mode : DataMode) (s : State) : State :=
  s.modify (.mem mode) (tsbResult (s.readA s.wM))

/-- `$04` TSB dp (R245). -/
def execTsbDp (dp : Byte) (s : State) : Host.Outcome State Fault Refusal :=
  .next (tsb (.dp dp) s)

/-- `$0C` TSB abs (R245). -/
def execTsbAbs (addr : Word) (s : State) : Host.Outcome State Fault Refusal :=
  .next (tsb (.abs addr) s)

/-- TRB (R246). -/
def trb (mode : DataMode) (s : State) : State :=
  s.modify (.mem mode) (trbResult (s.readA s.wM))

/-- `$14` TRB dp (R246). -/
def execTrbDp (dp : Byte) (s : State) : Host.Outcome State Fault Refusal :=
  .next (trb (.dp dp) s)

/-- `$1C` TRB abs (R246). -/
def execTrbAbs (addr : Word) (s : State) : Host.Outcome State Fault Refusal :=
  .next (trb (.abs addr) s)

end Sys2Proof.Machine
end

