-- ==== Sys2Proof/Machine/Control.lean ====
section
/-! DEFINITION. Processor control, mode, software interrupts and the return from one (48_processor_control.md R340 to R357). -/

namespace Sys2Proof.Machine

/-- `$18` CLC (R341). -/
def execClc (s : State) : Host.Outcome State Fault Refusal :=
  .next (s.withP (putFlag s.P .C false))

/-- `$38` SEC (R342). -/
def execSec (s : State) : Host.Outcome State Fault Refusal :=
  .next (s.withP (putFlag s.P .C true))

/-- `$58` CLI (R343). -/
def execCli (s : State) : Host.Outcome State Fault Refusal :=
  .next (s.withP (putFlag s.P .I false))

/-- `$78` SEI (R344). -/
def execSei (s : State) : Host.Outcome State Fault Refusal :=
  .next (s.withP (putFlag s.P .I true))

/-- `$D8` CLD (R345). -/
def execCld (s : State) : Host.Outcome State Fault Refusal :=
  .next (s.withP (putFlag s.P .D false))

/-- `$F8` SED (R346). -/
def execSed (s : State) : Host.Outcome State Fault Refusal :=
  .next (s.withP (putFlag s.P .D true))

/-- `$B8` CLV (R347). -/
def execClv (s : State) : Host.Outcome State Fault Refusal :=
  .next (s.withP (putFlag s.P .V false))

/-- `$C2` REP #i8 (R348). -/
def execRep (mask : Byte) (s : State) : Host.Outcome State Fault Refusal :=
  .next (s.setP (s.P &&& ~~~mask))

/-- `$E2` SEP #i8 (R349). -/
def execSep (mask : Byte) (s : State) : Host.Outcome State Fault Refusal :=
  .next (s.setP (s.P ||| mask))

/-- XCE (R350): C and E change places; the forcing is applied when the new `E` is 1. -/
def xce (s : State) : State :=
  let e := s.flag .C
  let p := putFlag s.P .C s.E
  if e then
    { s with
      E := true
      P := forceWidths true p
      X := s.X &&& 0x00FF#16
      Y := s.Y &&& 0x00FF#16
      SP := pinStack true s.SP }
  else { s with E := false, P := p }

/-- `$FB` XCE (R350). -/
def execXce (s : State) : Host.Outcome State Fault Refusal :=
  .next (xce s)

/-- `$EA` NOP (R351). -/
def execNop (s : State) : Host.Outcome State Fault Refusal :=
  .next s

/-- `$42` WDM #sig (R352). -/
def execWdm (_sig : Byte) (s : State) : Host.Outcome State Fault Refusal :=
  .next s

/-- `$CB` WAI (R353). -/
def execWai (s : State) : Host.Outcome State Fault Refusal :=
  .next { s with waiting := true }

/-- `$DB` STP (R354). -/
def execStp (s : State) : Host.Outcome State Fault Refusal :=
  .next { s with stopped := true }

/-- `$00` BRK #sig (R355). -/
def execBrk (_sig : Byte) (s : State) : Host.Outcome State Fault Refusal :=
  .next (s.takeInterrupt .brk)

/-- `$02` COP #sig (R356). -/
def execCop (_sig : Byte) (s : State) : Host.Outcome State Fault Refusal :=
  .next (s.takeInterrupt .cop)

/-- `$40` RTI (R357). -/
def execRti (s : State) : Host.Outcome State Fault Refusal :=
  .next s.returnFromInterrupt

end Sys2Proof.Machine
end

