-- ==== Sys2Proof/Machine/IncDec.lean ====
section
/-! DEFINITION. Increments and decrements (45_inc_dec.md R260 to R266). -/

namespace Sys2Proof.Machine

/-- INC (R261). -/
def inc (tgt : Target) (s : State) : State :=
  s.modify tgt incResult

/-- `$1A` INC A (R261). -/
def execIncAcc (s : State) : Host.Outcome State Fault Refusal :=
  .next (inc .acc s)

/-- `$E6` INC dp (R261). -/
def execIncDp (dp : Byte) (s : State) : Host.Outcome State Fault Refusal :=
  .next (inc (.mem (.dp dp)) s)

/-- `$EE` INC abs (R261). -/
def execIncAbs (addr : Word) (s : State) : Host.Outcome State Fault Refusal :=
  .next (inc (.mem (.abs addr)) s)

/-- `$F6` INC dp,X (R261). -/
def execIncDpX (dp : Byte) (s : State) : Host.Outcome State Fault Refusal :=
  .next (inc (.mem (.dpX dp)) s)

/-- `$FE` INC abs,X (R261). -/
def execIncAbsX (addr : Word) (s : State) : Host.Outcome State Fault Refusal :=
  .next (inc (.mem (.absX addr)) s)

/-- DEC (R262). -/
def dec (tgt : Target) (s : State) : State :=
  s.modify tgt decResult

/-- `$3A` DEC A (R262). -/
def execDecAcc (s : State) : Host.Outcome State Fault Refusal :=
  .next (dec .acc s)

/-- `$C6` DEC dp (R262). -/
def execDecDp (dp : Byte) (s : State) : Host.Outcome State Fault Refusal :=
  .next (dec (.mem (.dp dp)) s)

/-- `$CE` DEC abs (R262). -/
def execDecAbs (addr : Word) (s : State) : Host.Outcome State Fault Refusal :=
  .next (dec (.mem (.abs addr)) s)

/-- `$D6` DEC dp,X (R262). -/
def execDecDpX (dp : Byte) (s : State) : Host.Outcome State Fault Refusal :=
  .next (dec (.mem (.dpX dp)) s)

/-- `$DE` DEC abs,X (R262). -/
def execDecAbsX (addr : Word) (s : State) : Host.Outcome State Fault Refusal :=
  .next (dec (.mem (.absX addr)) s)

/-- Write `X` and `P` with a result at width `wX` (R263, R265). -/
def State.putX (s : State) (r : Word × Byte) : State :=
  (s.writeX r.1 s.wX).withP r.2

/-- Write `Y` and `P` with a result at width `wX` (R264, R266). -/
def State.putY (s : State) (r : Word × Byte) : State :=
  (s.writeY r.1 s.wX).withP r.2

/-- `$E8` INX (R263). -/
def execInx (s : State) : Host.Outcome State Fault Refusal :=
  .next (s.putX (incResult s.P s.X s.wX))

/-- `$C8` INY (R264). -/
def execIny (s : State) : Host.Outcome State Fault Refusal :=
  .next (s.putY (incResult s.P s.Y s.wX))

/-- `$CA` DEX (R265). -/
def execDex (s : State) : Host.Outcome State Fault Refusal :=
  .next (s.putX (decResult s.P s.X s.wX))

/-- `$88` DEY (R266). -/
def execDey (s : State) : Host.Outcome State Fault Refusal :=
  .next (s.putY (decResult s.P s.Y s.wX))

end Sys2Proof.Machine
end

