-- ==== Sys2Proof/Machine/LoadStore.lean ====
section
/-! DEFINITION. Loads and stores (41_load_store_transfer.md R160 to R167). -/

namespace Sys2Proof.Machine

/-- LDA (R161). -/
def lda (src : Source) (s : State) : State :=
  let v := s.readSource src s.wM
  (v.2.writeA v.1 s.wM).setNZ v.1 s.wM

/-- `$A1` LDA (dp,X) (R161). -/
def execLdaIDpX (dp : Byte) (s : State) : Host.Outcome State Fault Refusal :=
  .next (lda (.mem (.idpX dp)) s)

/-- `$A3` LDA sr,S (R161). -/
def execLdaSr (sr : Byte) (s : State) : Host.Outcome State Fault Refusal :=
  .next (lda (.mem (.sr sr)) s)

/-- `$A5` LDA dp (R161). -/
def execLdaDp (dp : Byte) (s : State) : Host.Outcome State Fault Refusal :=
  .next (lda (.mem (.dp dp)) s)

/-- `$A7` LDA [dp] (R161). -/
def execLdaILDp (dp : Byte) (s : State) : Host.Outcome State Fault Refusal :=
  .next (lda (.mem (.ildp dp)) s)

/-- `$A9` LDA #m (R161). -/
def execLdaImm (imm : Imm) (s : State) : Host.Outcome State Fault Refusal :=
  .next (lda (.imm imm) s)

/-- `$AD` LDA abs (R161). -/
def execLdaAbs (addr : Word) (s : State) : Host.Outcome State Fault Refusal :=
  .next (lda (.mem (.abs addr)) s)

/-- `$AF` LDA long (R161). -/
def execLdaLong (long : Addr) (s : State) : Host.Outcome State Fault Refusal :=
  .next (lda (.mem (.long long)) s)

/-- `$B1` LDA (dp),Y (R161). -/
def execLdaIDpY (dp : Byte) (s : State) : Host.Outcome State Fault Refusal :=
  .next (lda (.mem (.idpY dp)) s)

/-- `$B2` LDA (dp) (R161). -/
def execLdaIDp (dp : Byte) (s : State) : Host.Outcome State Fault Refusal :=
  .next (lda (.mem (.idp dp)) s)

/-- `$B3` LDA (sr,S),Y (R161). -/
def execLdaISrY (sr : Byte) (s : State) : Host.Outcome State Fault Refusal :=
  .next (lda (.mem (.isrY sr)) s)

/-- `$B5` LDA dp,X (R161). -/
def execLdaDpX (dp : Byte) (s : State) : Host.Outcome State Fault Refusal :=
  .next (lda (.mem (.dpX dp)) s)

/-- `$B7` LDA [dp],Y (R161). -/
def execLdaILDpY (dp : Byte) (s : State) : Host.Outcome State Fault Refusal :=
  .next (lda (.mem (.ildpY dp)) s)

/-- `$B9` LDA abs,Y (R161). -/
def execLdaAbsY (addr : Word) (s : State) : Host.Outcome State Fault Refusal :=
  .next (lda (.mem (.absY addr)) s)

/-- `$BD` LDA abs,X (R161). -/
def execLdaAbsX (addr : Word) (s : State) : Host.Outcome State Fault Refusal :=
  .next (lda (.mem (.absX addr)) s)

/-- `$BF` LDA long,X (R161). -/
def execLdaLongX (long : Addr) (s : State) : Host.Outcome State Fault Refusal :=
  .next (lda (.mem (.longX long)) s)

/-- LDX (R162). -/
def ldx (src : Source) (s : State) : State :=
  let v := s.readSource src s.wX
  (v.2.writeX v.1 s.wX).setNZ v.1 s.wX

/-- `$A2` LDX #x (R162). -/
def execLdxImm (imm : Imm) (s : State) : Host.Outcome State Fault Refusal :=
  .next (ldx (.imm imm) s)

/-- `$A6` LDX dp (R162). -/
def execLdxDp (dp : Byte) (s : State) : Host.Outcome State Fault Refusal :=
  .next (ldx (.mem (.dp dp)) s)

/-- `$AE` LDX abs (R162). -/
def execLdxAbs (addr : Word) (s : State) : Host.Outcome State Fault Refusal :=
  .next (ldx (.mem (.abs addr)) s)

/-- `$B6` LDX dp,Y (R162). -/
def execLdxDpY (dp : Byte) (s : State) : Host.Outcome State Fault Refusal :=
  .next (ldx (.mem (.dpY dp)) s)

/-- `$BE` LDX abs,Y (R162). -/
def execLdxAbsY (addr : Word) (s : State) : Host.Outcome State Fault Refusal :=
  .next (ldx (.mem (.absY addr)) s)

/-- LDY (R163). -/
def ldy (src : Source) (s : State) : State :=
  let v := s.readSource src s.wX
  (v.2.writeY v.1 s.wX).setNZ v.1 s.wX

/-- `$A0` LDY #x (R163). -/
def execLdyImm (imm : Imm) (s : State) : Host.Outcome State Fault Refusal :=
  .next (ldy (.imm imm) s)

/-- `$A4` LDY dp (R163). -/
def execLdyDp (dp : Byte) (s : State) : Host.Outcome State Fault Refusal :=
  .next (ldy (.mem (.dp dp)) s)

/-- `$AC` LDY abs (R163). -/
def execLdyAbs (addr : Word) (s : State) : Host.Outcome State Fault Refusal :=
  .next (ldy (.mem (.abs addr)) s)

/-- `$B4` LDY dp,X (R163). -/
def execLdyDpX (dp : Byte) (s : State) : Host.Outcome State Fault Refusal :=
  .next (ldy (.mem (.dpX dp)) s)

/-- `$BC` LDY abs,X (R163). -/
def execLdyAbsX (addr : Word) (s : State) : Host.Outcome State Fault Refusal :=
  .next (ldy (.mem (.absX addr)) s)

/-- STA (R164). -/
def sta (mode : DataMode) (s : State) : State :=
  s.storeAt mode s.wM (s.readA s.wM)

/-- `$81` STA (dp,X) (R164). -/
def execStaIDpX (dp : Byte) (s : State) : Host.Outcome State Fault Refusal :=
  .next (sta (.idpX dp) s)

/-- `$83` STA sr,S (R164). -/
def execStaSr (sr : Byte) (s : State) : Host.Outcome State Fault Refusal :=
  .next (sta (.sr sr) s)

/-- `$85` STA dp (R164). -/
def execStaDp (dp : Byte) (s : State) : Host.Outcome State Fault Refusal :=
  .next (sta (.dp dp) s)

/-- `$87` STA [dp] (R164). -/
def execStaILDp (dp : Byte) (s : State) : Host.Outcome State Fault Refusal :=
  .next (sta (.ildp dp) s)

/-- `$8D` STA abs (R164). -/
def execStaAbs (addr : Word) (s : State) : Host.Outcome State Fault Refusal :=
  .next (sta (.abs addr) s)

/-- `$8F` STA long (R164). -/
def execStaLong (long : Addr) (s : State) : Host.Outcome State Fault Refusal :=
  .next (sta (.long long) s)

/-- `$91` STA (dp),Y (R164). -/
def execStaIDpY (dp : Byte) (s : State) : Host.Outcome State Fault Refusal :=
  .next (sta (.idpY dp) s)

/-- `$92` STA (dp) (R164). -/
def execStaIDp (dp : Byte) (s : State) : Host.Outcome State Fault Refusal :=
  .next (sta (.idp dp) s)

/-- `$93` STA (sr,S),Y (R164). -/
def execStaISrY (sr : Byte) (s : State) : Host.Outcome State Fault Refusal :=
  .next (sta (.isrY sr) s)

/-- `$95` STA dp,X (R164). -/
def execStaDpX (dp : Byte) (s : State) : Host.Outcome State Fault Refusal :=
  .next (sta (.dpX dp) s)

/-- `$97` STA [dp],Y (R164). -/
def execStaILDpY (dp : Byte) (s : State) : Host.Outcome State Fault Refusal :=
  .next (sta (.ildpY dp) s)

/-- `$99` STA abs,Y (R164). -/
def execStaAbsY (addr : Word) (s : State) : Host.Outcome State Fault Refusal :=
  .next (sta (.absY addr) s)

/-- `$9D` STA abs,X (R164). -/
def execStaAbsX (addr : Word) (s : State) : Host.Outcome State Fault Refusal :=
  .next (sta (.absX addr) s)

/-- `$9F` STA long,X (R164). -/
def execStaLongX (long : Addr) (s : State) : Host.Outcome State Fault Refusal :=
  .next (sta (.longX long) s)

/-- STX (R165). -/
def stx (mode : DataMode) (s : State) : State :=
  s.storeAt mode s.wX (s.X &&& s.wX.mask)

/-- `$86` STX dp (R165). -/
def execStxDp (dp : Byte) (s : State) : Host.Outcome State Fault Refusal :=
  .next (stx (.dp dp) s)

/-- `$8E` STX abs (R165). -/
def execStxAbs (addr : Word) (s : State) : Host.Outcome State Fault Refusal :=
  .next (stx (.abs addr) s)

/-- `$96` STX dp,Y (R165). -/
def execStxDpY (dp : Byte) (s : State) : Host.Outcome State Fault Refusal :=
  .next (stx (.dpY dp) s)

/-- STY (R166). -/
def sty (mode : DataMode) (s : State) : State :=
  s.storeAt mode s.wX (s.Y &&& s.wX.mask)

/-- `$84` STY dp (R166). -/
def execStyDp (dp : Byte) (s : State) : Host.Outcome State Fault Refusal :=
  .next (sty (.dp dp) s)

/-- `$8C` STY abs (R166). -/
def execStyAbs (addr : Word) (s : State) : Host.Outcome State Fault Refusal :=
  .next (sty (.abs addr) s)

/-- `$94` STY dp,X (R166). -/
def execStyDpX (dp : Byte) (s : State) : Host.Outcome State Fault Refusal :=
  .next (sty (.dpX dp) s)

/-- STZ (R167). -/
def stz (mode : DataMode) (s : State) : State :=
  s.storeAt mode s.wM 0

/-- `$64` STZ dp (R167). -/
def execStzDp (dp : Byte) (s : State) : Host.Outcome State Fault Refusal :=
  .next (stz (.dp dp) s)

/-- `$74` STZ dp,X (R167). -/
def execStzDpX (dp : Byte) (s : State) : Host.Outcome State Fault Refusal :=
  .next (stz (.dpX dp) s)

/-- `$9C` STZ abs (R167). -/
def execStzAbs (addr : Word) (s : State) : Host.Outcome State Fault Refusal :=
  .next (stz (.abs addr) s)

/-- `$9E` STZ abs,X (R167). -/
def execStzAbsX (addr : Word) (s : State) : Host.Outcome State Fault Refusal :=
  .next (stz (.absX addr) s)

end Sys2Proof.Machine
end

