-- ==== Sys2Proof/Machine/Shift.lean ====
section
/-! DEFINITION. Shifts and rotates (43_shift_rotate.md R220 to R225). -/

namespace Sys2Proof.Machine

/-- ASL (R221). -/
def asl (tgt : Target) (s : State) : State :=
  s.modify tgt aslResult

/-- `$06` ASL dp (R221). -/
def execAslDp (dp : Byte) (s : State) : Host.Outcome State Fault Refusal :=
  .next (asl (.mem (.dp dp)) s)

/-- `$0A` ASL A (R221). -/
def execAslAcc (s : State) : Host.Outcome State Fault Refusal :=
  .next (asl .acc s)

/-- `$0E` ASL abs (R221). -/
def execAslAbs (addr : Word) (s : State) : Host.Outcome State Fault Refusal :=
  .next (asl (.mem (.abs addr)) s)

/-- `$16` ASL dp,X (R221). -/
def execAslDpX (dp : Byte) (s : State) : Host.Outcome State Fault Refusal :=
  .next (asl (.mem (.dpX dp)) s)

/-- `$1E` ASL abs,X (R221). -/
def execAslAbsX (addr : Word) (s : State) : Host.Outcome State Fault Refusal :=
  .next (asl (.mem (.absX addr)) s)

/-- LSR (R222). -/
def lsr (tgt : Target) (s : State) : State :=
  s.modify tgt lsrResult

/-- `$46` LSR dp (R222). -/
def execLsrDp (dp : Byte) (s : State) : Host.Outcome State Fault Refusal :=
  .next (lsr (.mem (.dp dp)) s)

/-- `$4A` LSR A (R222). -/
def execLsrAcc (s : State) : Host.Outcome State Fault Refusal :=
  .next (lsr .acc s)

/-- `$4E` LSR abs (R222). -/
def execLsrAbs (addr : Word) (s : State) : Host.Outcome State Fault Refusal :=
  .next (lsr (.mem (.abs addr)) s)

/-- `$56` LSR dp,X (R222). -/
def execLsrDpX (dp : Byte) (s : State) : Host.Outcome State Fault Refusal :=
  .next (lsr (.mem (.dpX dp)) s)

/-- `$5E` LSR abs,X (R222). -/
def execLsrAbsX (addr : Word) (s : State) : Host.Outcome State Fault Refusal :=
  .next (lsr (.mem (.absX addr)) s)

/-- ROL (R223). -/
def rol (tgt : Target) (s : State) : State :=
  s.modify tgt rolResult

/-- `$26` ROL dp (R223). -/
def execRolDp (dp : Byte) (s : State) : Host.Outcome State Fault Refusal :=
  .next (rol (.mem (.dp dp)) s)

/-- `$2A` ROL A (R223). -/
def execRolAcc (s : State) : Host.Outcome State Fault Refusal :=
  .next (rol .acc s)

/-- `$2E` ROL abs (R223). -/
def execRolAbs (addr : Word) (s : State) : Host.Outcome State Fault Refusal :=
  .next (rol (.mem (.abs addr)) s)

/-- `$36` ROL dp,X (R223). -/
def execRolDpX (dp : Byte) (s : State) : Host.Outcome State Fault Refusal :=
  .next (rol (.mem (.dpX dp)) s)

/-- `$3E` ROL abs,X (R223). -/
def execRolAbsX (addr : Word) (s : State) : Host.Outcome State Fault Refusal :=
  .next (rol (.mem (.absX addr)) s)

/-- ROR (R224). -/
def ror (tgt : Target) (s : State) : State :=
  s.modify tgt rorResult

/-- `$66` ROR dp (R224). -/
def execRorDp (dp : Byte) (s : State) : Host.Outcome State Fault Refusal :=
  .next (ror (.mem (.dp dp)) s)

/-- `$6A` ROR A (R224). -/
def execRorAcc (s : State) : Host.Outcome State Fault Refusal :=
  .next (ror .acc s)

/-- `$6E` ROR abs (R224). -/
def execRorAbs (addr : Word) (s : State) : Host.Outcome State Fault Refusal :=
  .next (ror (.mem (.abs addr)) s)

/-- `$76` ROR dp,X (R224). -/
def execRorDpX (dp : Byte) (s : State) : Host.Outcome State Fault Refusal :=
  .next (ror (.mem (.dpX dp)) s)

/-- `$7E` ROR abs,X (R224). -/
def execRorAbsX (addr : Word) (s : State) : Host.Outcome State Fault Refusal :=
  .next (ror (.mem (.absX addr)) s)

end Sys2Proof.Machine
end

