-- ==== Sys2Proof/Machine/Stack.lean ====
section
/-! DEFINITION. Pushes, pulls and push-effective-address (47_stack.md R310 to R326). -/

namespace Sys2Proof.Machine

/-- `$48` PHA (R311). -/
def execPha (s : State) : Host.Outcome State Fault Refusal :=
  .next (s.pushW s.A s.wM)

/-- `$DA` PHX (R312). -/
def execPhx (s : State) : Host.Outcome State Fault Refusal :=
  .next (s.pushW s.X s.wX)

/-- `$5A` PHY (R313). -/
def execPhy (s : State) : Host.Outcome State Fault Refusal :=
  .next (s.pushW s.Y s.wX)

/-- `$08` PHP (R314). -/
def execPhp (s : State) : Host.Outcome State Fault Refusal :=
  .next (s.push8 s.P)

/-- `$8B` PHB (R315). -/
def execPhb (s : State) : Host.Outcome State Fault Refusal :=
  .next (s.push8 s.DBR)

/-- `$0B` PHD (R316). -/
def execPhd (s : State) : Host.Outcome State Fault Refusal :=
  .next (s.push16 s.D)

/-- `$4B` PHK (R317). -/
def execPhk (s : State) : Host.Outcome State Fault Refusal :=
  .next (s.push8 s.PBR)

/-- PLA (R318). -/
def pla (s : State) : State :=
  let v := s.pullW s.wM
  (v.2.writeA v.1 s.wM).setNZ v.1 s.wM

/-- PLX (R319). -/
def plx (s : State) : State :=
  let v := s.pullW s.wX
  (v.2.writeX v.1 s.wX).setNZ v.1 s.wX

/-- PLY (R320). -/
def ply (s : State) : State :=
  let v := s.pullW s.wX
  (v.2.writeY v.1 s.wX).setNZ v.1 s.wX

/-- PLB (R322). -/
def plb (s : State) : State :=
  let v := s.pull8
  { v.2 with DBR := v.1 }.setNZ (v.1.zeroExtend 16) .w8

/-- PLD (R323). -/
def pld (s : State) : State :=
  let v := s.pull16
  { v.2 with D := v.1 }.setNZ v.1 .w16

/-- PEI (R325): the word is read before the pushes. -/
def pushIndirect (dp : Byte) (s : State) : State :=
  let v := s.read16 (inBank0 (s.directOffset dp))
  v.2.push16 v.1

/-- `$68` PLA (R318). -/
def execPla (s : State) : Host.Outcome State Fault Refusal :=
  .next (pla s)

/-- `$FA` PLX (R319). -/
def execPlx (s : State) : Host.Outcome State Fault Refusal :=
  .next (plx s)

/-- `$7A` PLY (R320). -/
def execPly (s : State) : Host.Outcome State Fault Refusal :=
  .next (ply s)

/-- `$28` PLP (R321). -/
def execPlp (s : State) : Host.Outcome State Fault Refusal :=
  .next (s.pull8.2.setP s.pull8.1)

/-- `$AB` PLB (R322). -/
def execPlb (s : State) : Host.Outcome State Fault Refusal :=
  .next (plb s)

/-- `$2B` PLD (R323). -/
def execPld (s : State) : Host.Outcome State Fault Refusal :=
  .next (pld s)

/-- `$F4` PEA abs (R324). -/
def execPea (value : Word) (s : State) : Host.Outcome State Fault Refusal :=
  .next (s.push16 value)

/-- `$D4` PEI (dp) (R325). -/
def execPei (dp : Byte) (s : State) : Host.Outcome State Fault Refusal :=
  .next (pushIndirect dp s)

/-- `$62` PER rel16 (R326). -/
def execPer (disp : Word) (s : State) : Host.Outcome State Fault Refusal :=
  .next (s.push16 (relative16 s.PC disp))

end Sys2Proof.Machine
end

