-- ==== Sys2Proof/Machine/Transfer.lean ====
section
/-! DEFINITION. Register transfers (41_load_store_transfer.md R170 to R184). -/

namespace Sys2Proof.Machine

/-- A transfer into `A` at width `wM` (R170). -/
def State.intoA (s : State) (v : Word) : State :=
  (s.writeA (v &&& s.wM.mask) s.wM).setNZ (v &&& s.wM.mask) s.wM

/-- A transfer into `X` at width `wX` (R170). -/
def State.intoX (s : State) (v : Word) : State :=
  (s.writeX (v &&& s.wX.mask) s.wX).setNZ (v &&& s.wX.mask) s.wX

/-- A transfer into `Y` at width `wX` (R170). -/
def State.intoY (s : State) (v : Word) : State :=
  (s.writeY (v &&& s.wX.mask) s.wX).setNZ (v &&& s.wX.mask) s.wX

/-- `$AA` TAX (R171). -/
def execTax (s : State) : Host.Outcome State Fault Refusal :=
  .next (s.intoX s.A)

/-- `$A8` TAY (R172). -/
def execTay (s : State) : Host.Outcome State Fault Refusal :=
  .next (s.intoY s.A)

/-- `$8A` TXA (R173). -/
def execTxa (s : State) : Host.Outcome State Fault Refusal :=
  .next (s.intoA s.X)

/-- `$98` TYA (R174). -/
def execTya (s : State) : Host.Outcome State Fault Refusal :=
  .next (s.intoA s.Y)

/-- `$BA` TSX (R175). -/
def execTsx (s : State) : Host.Outcome State Fault Refusal :=
  .next (s.intoX s.SP)

/-- `$9B` TXY (R177). -/
def execTxy (s : State) : Host.Outcome State Fault Refusal :=
  .next (s.intoY s.X)

/-- `$BB` TYX (R178). -/
def execTyx (s : State) : Host.Outcome State Fault Refusal :=
  .next (s.intoX s.Y)

/-- `$9A` TXS (R176). -/
def execTxs (s : State) : Host.Outcome State Fault Refusal :=
  .next { s with SP := pinStack s.E s.X }

/-- `$5B` TCD (R180). -/
def execTcd (s : State) : Host.Outcome State Fault Refusal :=
  .next ({ s with D := s.A }.setNZ s.A .w16)

/-- `$1B` TCS (R181). -/
def execTcs (s : State) : Host.Outcome State Fault Refusal :=
  .next { s with SP := pinStack s.E s.A }

/-- `$7B` TDC (R182). -/
def execTdc (s : State) : Host.Outcome State Fault Refusal :=
  .next ({ s with A := s.D }.setNZ s.D .w16)

/-- `$3B` TSC (R183). -/
def execTsc (s : State) : Host.Outcome State Fault Refusal :=
  .next ({ s with A := s.SP }.setNZ s.SP .w16)

/-- `$EB` XBA (R184). -/
def execXba (s : State) : Host.Outcome State Fault Refusal :=
  .next ({ s with A := mkWord (lo8 s.A) (hi8 s.A) }.setNZ ((hi8 s.A).zeroExtend 16) .w8)

end Sys2Proof.Machine
end

