-- ==== Sys2Proof/Machine/Dispatch.lean ====
section
/-! DEFINITION. One arm per constructor of `Instr`: the meaning of an instruction in a state whose `PC` is already past it
(30_encoding.md R90 stage 7, R101). -/

namespace Sys2Proof.Machine

/-- Execute an instruction (R90 stage 7). -/
def exec (i : Instr) (s : State) : Host.Outcome State Fault Refusal :=
  match i with
  | .brk sig => Sys2Proof.Machine.execBrk sig s
  | .oraIDpX dp => Sys2Proof.Machine.execOraIDpX dp s
  | .cop sig => Sys2Proof.Machine.execCop sig s
  | .oraSr sr => Sys2Proof.Machine.execOraSr sr s
  | .tsbDp dp => Sys2Proof.Machine.execTsbDp dp s
  | .oraDp dp => Sys2Proof.Machine.execOraDp dp s
  | .aslDp dp => Sys2Proof.Machine.execAslDp dp s
  | .oraILDp dp => Sys2Proof.Machine.execOraILDp dp s
  | .oraImm imm => Sys2Proof.Machine.execOraImm imm s
  | .tsbAbs addr => Sys2Proof.Machine.execTsbAbs addr s
  | .oraAbs addr => Sys2Proof.Machine.execOraAbs addr s
  | .aslAbs addr => Sys2Proof.Machine.execAslAbs addr s
  | .oraLong long => Sys2Proof.Machine.execOraLong long s
  | .bpl disp => Sys2Proof.Machine.execBpl disp s
  | .oraIDpY dp => Sys2Proof.Machine.execOraIDpY dp s
  | .oraIDp dp => Sys2Proof.Machine.execOraIDp dp s
  | .oraISrY sr => Sys2Proof.Machine.execOraISrY sr s
  | .trbDp dp => Sys2Proof.Machine.execTrbDp dp s
  | .oraDpX dp => Sys2Proof.Machine.execOraDpX dp s
  | .aslDpX dp => Sys2Proof.Machine.execAslDpX dp s
  | .oraILDpY dp => Sys2Proof.Machine.execOraILDpY dp s
  | .oraAbsY addr => Sys2Proof.Machine.execOraAbsY addr s
  | .trbAbs addr => Sys2Proof.Machine.execTrbAbs addr s
  | .oraAbsX addr => Sys2Proof.Machine.execOraAbsX addr s
  | .aslAbsX addr => Sys2Proof.Machine.execAslAbsX addr s
  | .oraLongX long => Sys2Proof.Machine.execOraLongX long s
  | .jsrAbs addr => Sys2Proof.Machine.execJsrAbs addr s
  | .andIDpX dp => Sys2Proof.Machine.execAndIDpX dp s
  | .jsl long => Sys2Proof.Machine.execJsl long s
  | .andSr sr => Sys2Proof.Machine.execAndSr sr s
  | .bitDp dp => Sys2Proof.Machine.execBitDp dp s
  | .andDp dp => Sys2Proof.Machine.execAndDp dp s
  | .rolDp dp => Sys2Proof.Machine.execRolDp dp s
  | .andILDp dp => Sys2Proof.Machine.execAndILDp dp s
  | .andImm imm => Sys2Proof.Machine.execAndImm imm s
  | .bitAbs addr => Sys2Proof.Machine.execBitAbs addr s
  | .andAbs addr => Sys2Proof.Machine.execAndAbs addr s
  | .rolAbs addr => Sys2Proof.Machine.execRolAbs addr s
  | .andLong long => Sys2Proof.Machine.execAndLong long s
  | .bmi disp => Sys2Proof.Machine.execBmi disp s
  | .andIDpY dp => Sys2Proof.Machine.execAndIDpY dp s
  | .andIDp dp => Sys2Proof.Machine.execAndIDp dp s
  | .andISrY sr => Sys2Proof.Machine.execAndISrY sr s
  | .bitDpX dp => Sys2Proof.Machine.execBitDpX dp s
  | .andDpX dp => Sys2Proof.Machine.execAndDpX dp s
  | .rolDpX dp => Sys2Proof.Machine.execRolDpX dp s
  | .andILDpY dp => Sys2Proof.Machine.execAndILDpY dp s
  | .andAbsY addr => Sys2Proof.Machine.execAndAbsY addr s
  | .bitAbsX addr => Sys2Proof.Machine.execBitAbsX addr s
  | .andAbsX addr => Sys2Proof.Machine.execAndAbsX addr s
  | .rolAbsX addr => Sys2Proof.Machine.execRolAbsX addr s
  | .andLongX long => Sys2Proof.Machine.execAndLongX long s
  | .eorIDpX dp => Sys2Proof.Machine.execEorIDpX dp s
  | .wdm sig => Sys2Proof.Machine.execWdm sig s
  | .eorSr sr => Sys2Proof.Machine.execEorSr sr s
  | .mvp dst src => Sys2Proof.Machine.execMvp dst src s
  | .eorDp dp => Sys2Proof.Machine.execEorDp dp s
  | .lsrDp dp => Sys2Proof.Machine.execLsrDp dp s
  | .eorILDp dp => Sys2Proof.Machine.execEorILDp dp s
  | .eorImm imm => Sys2Proof.Machine.execEorImm imm s
  | .jmpAbs addr => Sys2Proof.Machine.execJmpAbs addr s
  | .eorAbs addr => Sys2Proof.Machine.execEorAbs addr s
  | .lsrAbs addr => Sys2Proof.Machine.execLsrAbs addr s
  | .eorLong long => Sys2Proof.Machine.execEorLong long s
  | .bvc disp => Sys2Proof.Machine.execBvc disp s
  | .eorIDpY dp => Sys2Proof.Machine.execEorIDpY dp s
  | .eorIDp dp => Sys2Proof.Machine.execEorIDp dp s
  | .eorISrY sr => Sys2Proof.Machine.execEorISrY sr s
  | .mvn dst src => Sys2Proof.Machine.execMvn dst src s
  | .eorDpX dp => Sys2Proof.Machine.execEorDpX dp s
  | .lsrDpX dp => Sys2Proof.Machine.execLsrDpX dp s
  | .eorILDpY dp => Sys2Proof.Machine.execEorILDpY dp s
  | .eorAbsY addr => Sys2Proof.Machine.execEorAbsY addr s
  | .jmlLong long => Sys2Proof.Machine.execJmlLong long s
  | .eorAbsX addr => Sys2Proof.Machine.execEorAbsX addr s
  | .lsrAbsX addr => Sys2Proof.Machine.execLsrAbsX addr s
  | .eorLongX long => Sys2Proof.Machine.execEorLongX long s
  | .adcIDpX dp => Sys2Proof.Machine.execAdcIDpX dp s
  | .per disp => Sys2Proof.Machine.execPer disp s
  | .adcSr sr => Sys2Proof.Machine.execAdcSr sr s
  | .stzDp dp => Sys2Proof.Machine.execStzDp dp s
  | .adcDp dp => Sys2Proof.Machine.execAdcDp dp s
  | .rorDp dp => Sys2Proof.Machine.execRorDp dp s
  | .adcILDp dp => Sys2Proof.Machine.execAdcILDp dp s
  | .adcImm imm => Sys2Proof.Machine.execAdcImm imm s
  | .jmpIAbs addr => Sys2Proof.Machine.execJmpIAbs addr s
  | .adcAbs addr => Sys2Proof.Machine.execAdcAbs addr s
  | .rorAbs addr => Sys2Proof.Machine.execRorAbs addr s
  | .adcLong long => Sys2Proof.Machine.execAdcLong long s
  | .bvs disp => Sys2Proof.Machine.execBvs disp s
  | .adcIDpY dp => Sys2Proof.Machine.execAdcIDpY dp s
  | .adcIDp dp => Sys2Proof.Machine.execAdcIDp dp s
  | .adcISrY sr => Sys2Proof.Machine.execAdcISrY sr s
  | .stzDpX dp => Sys2Proof.Machine.execStzDpX dp s
  | .adcDpX dp => Sys2Proof.Machine.execAdcDpX dp s
  | .rorDpX dp => Sys2Proof.Machine.execRorDpX dp s
  | .adcILDpY dp => Sys2Proof.Machine.execAdcILDpY dp s
  | .adcAbsY addr => Sys2Proof.Machine.execAdcAbsY addr s
  | .jmpIAbsX addr => Sys2Proof.Machine.execJmpIAbsX addr s
  | .adcAbsX addr => Sys2Proof.Machine.execAdcAbsX addr s
  | .rorAbsX addr => Sys2Proof.Machine.execRorAbsX addr s
  | .adcLongX long => Sys2Proof.Machine.execAdcLongX long s
  | .bra disp => Sys2Proof.Machine.execBra disp s
  | .staIDpX dp => Sys2Proof.Machine.execStaIDpX dp s
  | .brl disp => Sys2Proof.Machine.execBrl disp s
  | .staSr sr => Sys2Proof.Machine.execStaSr sr s
  | .styDp dp => Sys2Proof.Machine.execStyDp dp s
  | .staDp dp => Sys2Proof.Machine.execStaDp dp s
  | .stxDp dp => Sys2Proof.Machine.execStxDp dp s
  | .staILDp dp => Sys2Proof.Machine.execStaILDp dp s
  | .bitImm imm => Sys2Proof.Machine.execBitImm imm s
  | .styAbs addr => Sys2Proof.Machine.execStyAbs addr s
  | .staAbs addr => Sys2Proof.Machine.execStaAbs addr s
  | .stxAbs addr => Sys2Proof.Machine.execStxAbs addr s
  | .staLong long => Sys2Proof.Machine.execStaLong long s
  | .bcc disp => Sys2Proof.Machine.execBcc disp s
  | .staIDpY dp => Sys2Proof.Machine.execStaIDpY dp s
  | .staIDp dp => Sys2Proof.Machine.execStaIDp dp s
  | .staISrY sr => Sys2Proof.Machine.execStaISrY sr s
  | .styDpX dp => Sys2Proof.Machine.execStyDpX dp s
  | .staDpX dp => Sys2Proof.Machine.execStaDpX dp s
  | .stxDpY dp => Sys2Proof.Machine.execStxDpY dp s
  | .staILDpY dp => Sys2Proof.Machine.execStaILDpY dp s
  | .staAbsY addr => Sys2Proof.Machine.execStaAbsY addr s
  | .stzAbs addr => Sys2Proof.Machine.execStzAbs addr s
  | .staAbsX addr => Sys2Proof.Machine.execStaAbsX addr s
  | .stzAbsX addr => Sys2Proof.Machine.execStzAbsX addr s
  | .staLongX long => Sys2Proof.Machine.execStaLongX long s
  | .ldyImm imm => Sys2Proof.Machine.execLdyImm imm s
  | .ldaIDpX dp => Sys2Proof.Machine.execLdaIDpX dp s
  | .ldxImm imm => Sys2Proof.Machine.execLdxImm imm s
  | .ldaSr sr => Sys2Proof.Machine.execLdaSr sr s
  | .ldyDp dp => Sys2Proof.Machine.execLdyDp dp s
  | .ldaDp dp => Sys2Proof.Machine.execLdaDp dp s
  | .ldxDp dp => Sys2Proof.Machine.execLdxDp dp s
  | .ldaILDp dp => Sys2Proof.Machine.execLdaILDp dp s
  | .ldaImm imm => Sys2Proof.Machine.execLdaImm imm s
  | .ldyAbs addr => Sys2Proof.Machine.execLdyAbs addr s
  | .ldaAbs addr => Sys2Proof.Machine.execLdaAbs addr s
  | .ldxAbs addr => Sys2Proof.Machine.execLdxAbs addr s
  | .ldaLong long => Sys2Proof.Machine.execLdaLong long s
  | .bcs disp => Sys2Proof.Machine.execBcs disp s
  | .ldaIDpY dp => Sys2Proof.Machine.execLdaIDpY dp s
  | .ldaIDp dp => Sys2Proof.Machine.execLdaIDp dp s
  | .ldaISrY sr => Sys2Proof.Machine.execLdaISrY sr s
  | .ldyDpX dp => Sys2Proof.Machine.execLdyDpX dp s
  | .ldaDpX dp => Sys2Proof.Machine.execLdaDpX dp s
  | .ldxDpY dp => Sys2Proof.Machine.execLdxDpY dp s
  | .ldaILDpY dp => Sys2Proof.Machine.execLdaILDpY dp s
  | .ldaAbsY addr => Sys2Proof.Machine.execLdaAbsY addr s
  | .ldyAbsX addr => Sys2Proof.Machine.execLdyAbsX addr s
  | .ldaAbsX addr => Sys2Proof.Machine.execLdaAbsX addr s
  | .ldxAbsY addr => Sys2Proof.Machine.execLdxAbsY addr s
  | .ldaLongX long => Sys2Proof.Machine.execLdaLongX long s
  | .cpyImm imm => Sys2Proof.Machine.execCpyImm imm s
  | .cmpIDpX dp => Sys2Proof.Machine.execCmpIDpX dp s
  | .rep mask => Sys2Proof.Machine.execRep mask s
  | .cmpSr sr => Sys2Proof.Machine.execCmpSr sr s
  | .cpyDp dp => Sys2Proof.Machine.execCpyDp dp s
  | .cmpDp dp => Sys2Proof.Machine.execCmpDp dp s
  | .decDp dp => Sys2Proof.Machine.execDecDp dp s
  | .cmpILDp dp => Sys2Proof.Machine.execCmpILDp dp s
  | .cmpImm imm => Sys2Proof.Machine.execCmpImm imm s
  | .cpyAbs addr => Sys2Proof.Machine.execCpyAbs addr s
  | .cmpAbs addr => Sys2Proof.Machine.execCmpAbs addr s
  | .decAbs addr => Sys2Proof.Machine.execDecAbs addr s
  | .cmpLong long => Sys2Proof.Machine.execCmpLong long s
  | .bne disp => Sys2Proof.Machine.execBne disp s
  | .cmpIDpY dp => Sys2Proof.Machine.execCmpIDpY dp s
  | .cmpIDp dp => Sys2Proof.Machine.execCmpIDp dp s
  | .cmpISrY sr => Sys2Proof.Machine.execCmpISrY sr s
  | .pei dp => Sys2Proof.Machine.execPei dp s
  | .cmpDpX dp => Sys2Proof.Machine.execCmpDpX dp s
  | .decDpX dp => Sys2Proof.Machine.execDecDpX dp s
  | .cmpILDpY dp => Sys2Proof.Machine.execCmpILDpY dp s
  | .cmpAbsY addr => Sys2Proof.Machine.execCmpAbsY addr s
  | .jmlILAbs addr => Sys2Proof.Machine.execJmlILAbs addr s
  | .cmpAbsX addr => Sys2Proof.Machine.execCmpAbsX addr s
  | .decAbsX addr => Sys2Proof.Machine.execDecAbsX addr s
  | .cmpLongX long => Sys2Proof.Machine.execCmpLongX long s
  | .cpxImm imm => Sys2Proof.Machine.execCpxImm imm s
  | .sbcIDpX dp => Sys2Proof.Machine.execSbcIDpX dp s
  | .sep mask => Sys2Proof.Machine.execSep mask s
  | .sbcSr sr => Sys2Proof.Machine.execSbcSr sr s
  | .cpxDp dp => Sys2Proof.Machine.execCpxDp dp s
  | .sbcDp dp => Sys2Proof.Machine.execSbcDp dp s
  | .incDp dp => Sys2Proof.Machine.execIncDp dp s
  | .sbcILDp dp => Sys2Proof.Machine.execSbcILDp dp s
  | .sbcImm imm => Sys2Proof.Machine.execSbcImm imm s
  | .cpxAbs addr => Sys2Proof.Machine.execCpxAbs addr s
  | .sbcAbs addr => Sys2Proof.Machine.execSbcAbs addr s
  | .incAbs addr => Sys2Proof.Machine.execIncAbs addr s
  | .sbcLong long => Sys2Proof.Machine.execSbcLong long s
  | .beq disp => Sys2Proof.Machine.execBeq disp s
  | .sbcIDpY dp => Sys2Proof.Machine.execSbcIDpY dp s
  | .sbcIDp dp => Sys2Proof.Machine.execSbcIDp dp s
  | .sbcISrY sr => Sys2Proof.Machine.execSbcISrY sr s
  | .pea value => Sys2Proof.Machine.execPea value s
  | .sbcDpX dp => Sys2Proof.Machine.execSbcDpX dp s
  | .incDpX dp => Sys2Proof.Machine.execIncDpX dp s
  | .sbcILDpY dp => Sys2Proof.Machine.execSbcILDpY dp s
  | .sbcAbsY addr => Sys2Proof.Machine.execSbcAbsY addr s
  | .jsrIAbsX addr => Sys2Proof.Machine.execJsrIAbsX addr s
  | .sbcAbsX addr => Sys2Proof.Machine.execSbcAbsX addr s
  | .incAbsX addr => Sys2Proof.Machine.execIncAbsX addr s
  | .sbcLongX long => Sys2Proof.Machine.execSbcLongX long s
  | .php => Sys2Proof.Machine.execPhp s
  | .aslAcc => Sys2Proof.Machine.execAslAcc s
  | .phd => Sys2Proof.Machine.execPhd s
  | .clc => Sys2Proof.Machine.execClc s
  | .incAcc => Sys2Proof.Machine.execIncAcc s
  | .tcs => Sys2Proof.Machine.execTcs s
  | .plp => Sys2Proof.Machine.execPlp s
  | .rolAcc => Sys2Proof.Machine.execRolAcc s
  | .pld => Sys2Proof.Machine.execPld s
  | .sec => Sys2Proof.Machine.execSec s
  | .decAcc => Sys2Proof.Machine.execDecAcc s
  | .tsc => Sys2Proof.Machine.execTsc s
  | .rti => Sys2Proof.Machine.execRti s
  | .pha => Sys2Proof.Machine.execPha s
  | .lsrAcc => Sys2Proof.Machine.execLsrAcc s
  | .phk => Sys2Proof.Machine.execPhk s
  | .cli => Sys2Proof.Machine.execCli s
  | .phy => Sys2Proof.Machine.execPhy s
  | .tcd => Sys2Proof.Machine.execTcd s
  | .rts => Sys2Proof.Machine.execRts s
  | .pla => Sys2Proof.Machine.execPla s
  | .rorAcc => Sys2Proof.Machine.execRorAcc s
  | .rtl => Sys2Proof.Machine.execRtl s
  | .sei => Sys2Proof.Machine.execSei s
  | .ply => Sys2Proof.Machine.execPly s
  | .tdc => Sys2Proof.Machine.execTdc s
  | .dey => Sys2Proof.Machine.execDey s
  | .txa => Sys2Proof.Machine.execTxa s
  | .phb => Sys2Proof.Machine.execPhb s
  | .tya => Sys2Proof.Machine.execTya s
  | .txs => Sys2Proof.Machine.execTxs s
  | .txy => Sys2Proof.Machine.execTxy s
  | .tay => Sys2Proof.Machine.execTay s
  | .tax => Sys2Proof.Machine.execTax s
  | .plb => Sys2Proof.Machine.execPlb s
  | .clv => Sys2Proof.Machine.execClv s
  | .tsx => Sys2Proof.Machine.execTsx s
  | .tyx => Sys2Proof.Machine.execTyx s
  | .iny => Sys2Proof.Machine.execIny s
  | .dex => Sys2Proof.Machine.execDex s
  | .wai => Sys2Proof.Machine.execWai s
  | .cld => Sys2Proof.Machine.execCld s
  | .phx => Sys2Proof.Machine.execPhx s
  | .stp => Sys2Proof.Machine.execStp s
  | .inx => Sys2Proof.Machine.execInx s
  | .nop => Sys2Proof.Machine.execNop s
  | .xba => Sys2Proof.Machine.execXba s
  | .sed => Sys2Proof.Machine.execSed s
  | .plx => Sys2Proof.Machine.execPlx s
  | .xce => Sys2Proof.Machine.execXce s

end Sys2Proof.Machine
end

