-- ==== Sys2Proof/Machine/Fetch.lean ====
section
/-! DEFINITION. Fetching an instruction's bytes (30_encoding.md R91, 20_memory.md R72), and laying an instruction down where
the next step fetches. -/

namespace Sys2Proof.Machine

/-- Fetch one instruction byte at `{PBR, PC}` and advance `PC` inside its bank (R72, 10_state.md R25). -/
def State.fetchByte (s : State) : Byte × State :=
  let b := s.read8 ⟨mkAddr s.PBR s.PC, .wrap⟩
  (b.1, { b.2 with PC := s.PC + 1 })

/-- Fetch `n` bytes in ascending order (R91). -/
def State.fetchBytes : Nat → State → List Byte × State
  | 0, s => ([], s)
  | n + 1, s =>
    let b := s.fetchByte
    let r := State.fetchBytes n b.2
    (b.1 :: r.1, r.2)

/-- Fetch and decode (R91): the opcode byte, then as many operand bytes as the opcode has under the width flags before
the instruction. `PC` ends past the instruction. -/
def State.fetch (s : State) : Instr × State :=
  let op := s.fetchByte
  let ops := State.fetchBytes (operandCount op.1 (s.flag .M) (s.flag .X)) op.2
  (decodeOpcode op.1 ⟨ops.1.getD 0 0, ops.1.getD 1 0, ops.1.getD 2 0, s.flag .M, s.flag .X⟩, ops.2)

/-- RAM with bytes laid down from `{bank, o}` on, wrapping inside the bank. -/
def Memory.layDown (bank : Byte) : Word → List Byte → Memory → Memory
  | _, [], m => m
  | o, b :: rest, m => Memory.layDown bank (o + 1) rest (Memory.write m (mkAddr bank o).toNat b)

/-- Bytes laid down where the next step fetches, in a state whose next step fetches: not stopped, not waiting, no
interrupt to take, no block move in progress, and the port answering from RAM. -/
def State.placeBytes (s : State) (bytes : List Byte) : State :=
  { s with
    stopped := false
    waiting := false
    mv := .idle
    nmiPending := false
    irqPending := s.irqPending && s.flag .I
    script := []
    mem := Memory.layDown s.PBR s.PC bytes s.mem }

end Sys2Proof.Machine
end

