-- ==== Sys2Proof/Machine/Sequence.lean ====
section
/-! DEFINITION. The sequence of one call of `execute_one()` (30_encoding.md R90). -/

namespace Sys2Proof.Machine

/-- Stages 5 to 7 of R90, when nothing is serviced: a block move in progress, else fetch, decode and execute. -/
def State.proceed (s : State) : Host.Outcome State Fault Refusal :=
  match s.mv with
  | .active dir dst src => .next (s.blockStep dir dst src)
  | .idle => exec s.fetch.1 s.fetch.2

/-- `Step()` (R90), stages 1 to 7 in order: `Stopped`; `Waiting`; a pending NMI, then a pending unmasked IRQ; a block move in
progress; else fetch, decode and execute. No stage ends in a fault or a refusal (00_scope.md R6). -/
def State.sequence (s : State) : Host.Outcome State Fault Refusal :=
  if s.stopped then .next s
  else
    match s.wake with
    | none => .next s
    | some w =>
      match w.service with
      | some t => .next t
      | none => w.proceed

end Sys2Proof.Machine
end

