-- ==== Sys2Proof/Machine/Step.lean ====
section
/-! DEFINITION. One call of `execute_one()` (30_encoding.md R90), and the state whose next step runs a given instruction. -/

namespace Sys2Proof.Machine

/-- One step of the engine: one call of `execute_one()` (R90). -/
def step (s : State) : Host.Outcome State Fault Refusal :=
  s.sequence

/-- The state `s` with the instruction of a row of opcode_table.json stored where `step` fetches its next instruction
(notes/assumptions/4.md). -/
def State.withFetchWord (s : State) (nbits w : Nat) : State :=
  s.placeBytes (tableBytes nbits w)

end Sys2Proof.Machine
end

