-- ==== Sys2Proof/Config.lean ====
section
/-! DEFINITION. What an implementation fixes and the spec leaves open: the parts of the parameter `Cycles`
(00_scope.md R7, 70_reset_and_hazards.md R436, R439; 93_implementation_defined.md U2, U3) that no source gives.
They are constants without a body: nothing can evaluate them, and a claim holds whatever they are.
How `Cycles` is cut into these parts, and what each part can see, is the model's choice: DESIGN CHOICE,
notes/assumptions/7.md. They are functions of states, so that no two steps are taken to cost the same where the spec
does not say so.
The two other OPEN parameters of R7 are not here: `ResetDraw` is an argument of `State.doReset`
(Machine/Environment.lean) and `Port` is the memory and the answer script that State holds (Machine/State.lean). -/

namespace Sys2Proof.Config

/-- Base cycle count of an instruction, by opcode and the state its handler runs in: "ZNES gives no base-cycle table"
(R436). DESIGN CHOICE: notes/assumptions/7.md. -/
opaque baseCycles : Byte → Machine.State → Nat

/-- Handler-specific penalty other than the read-modify-write one, by opcode, the state the handler runs in and the state it
leaves: all that the execution did (R436). DESIGN CHOICE: notes/assumptions/7.md. -/
opaque handlerPenalty : Byte → Machine.State → Machine.State → Nat

/-- The "configurable table" of opcodes that charge the page-crossing cycle (R439, U2). -/
opaque chargesPageCross : Byte → Bool

/-- Count of an interrupt-service step, by the state before the step: IRQ or NMI, woken or not, either mode. None in ZNES
(R439). DESIGN CHOICE: notes/assumptions/7.md. -/
opaque interruptCycles : Machine.State → Nat

/-- Count of a step in `Stopped`, or in `Waiting` with nothing pending, by the state before the step; none in ZNES (R439).
DESIGN CHOICE: notes/assumptions/7.md. -/
opaque idleCycles : Machine.State → Nat

end Sys2Proof.Config
end

