-- ==== Sys2Proof/Machine/Cycles.lean ====
section
/-! DEFINITION. `Cycles`, the number `execute_one()` returns (70_reset_and_hazards.md R436 to R439; 00_scope.md R7). It is an
output of the step and no rule reads it, so it is no part of State (10_state.md R39). What no source gives is taken from
the constants of Config.lean that have no body. (notes/assumptions/7.md) -/

namespace Sys2Proof.Machine

/-- A read-modify-write mnemonic (R438). -/
def isModify (n : Mnemonic) : Bool :=
  decide (n ∈ [Mnemonic.ASL, .LSR, .ROL, .ROR, .INC, .DEC, .TSB, .TRB])

/-- The resolver's extra-cycle flags as a count (R146, R439): the direct-page cycle, and the page-crossing cycle where the
"configurable table" charges it. -/
def State.modeExtra (s : State) (op : Byte) (mode : DataMode) : Nat :=
  (s.directExtra mode).toNat + (s.pageExtra mode && Config.chargesPageCross op).toNat

/-- The extra cycles an instruction's operand takes (R439). -/
def State.operandExtra (s : State) (i : Instr) : Nat :=
  match i.operand.mode? with
  | some mode => s.modeExtra i.opcode mode
  | none => 0

/-- The handler-specific penalty (R436, R438): two for a read-modify-write on memory. -/
def State.penalty (s : State) (i : Instr) : Nat :=
  if isModify i.mnemonic && i.operand.mode?.isSome then 2
  else
    match exec i s with
    | .next t => Config.handlerPenalty i.opcode s t
    | .fault _ => 0
    | .refused _ => 0

/-- The count of one instruction whose bytes have been fetched (R436); 7 for the first step of a block move (R437). -/
def State.instrCycles (s : State) (i : Instr) : Nat :=
  match i.operand with
  | .blk _ _ => 7
  | _ => Config.baseCycles i.opcode s + s.operandExtra i + s.penalty i

/-- The count of stages 5 to 7 (R436, R437). -/
def State.proceedCycles (s : State) : Nat :=
  match s.mv with
  | .active _ _ _ => 7
  | .idle => s.fetch.2.instrCycles s.fetch.1

/-- `Cycles` of the step from `s`, an unsigned 32-bit number (R436). -/
def State.cycles (s : State) : BitVec 32 :=
  BitVec.ofNat 32 <|
    if s.stopped then Config.idleCycles s
    else
      match s.wake with
      | none => Config.idleCycles s
      | some w => if w.service.isSome then Config.interruptCycles s else w.proceedCycles

end Sys2Proof.Machine
end

