-- ==== Sys2Proof/Machine/Environment.lean ====
section
/-! DEFINITION. What the environment can do to the engine (00_scope.md R5): `reset()`, `assert_irq()`, `assert_nmi()`,
`execute_one()`, inspection, and, between steps, other bus masters writing memory and the port's answers (20_memory.md
R60, R78; notes/assumptions/2.md, 9.md). -/

namespace Sys2Proof.Machine

/-- `ResetDraw` (R7, 70_reset_and_hazards.md R420): the values a reset leaves unspecified, each an independent draw. -/
structure ResetDraw where
  a : Word
  xl : Byte
  yl : Byte
  spl : Byte
  n : Bool
  v : Bool
  z : Bool
  c : Bool
  deriving DecidableEq, Repr

/-- `P` after a reset (R420): M, X, I set, D clear, the other four drawn. -/
def ResetDraw.status (d : ResetDraw) : Byte :=
  putFlag (putFlag (putFlag (putFlag 0x34#8 .N d.n) .V d.v) .Z d.z) .C d.c

/-- The registers a reset sets before it reads its vector (R420). -/
def State.clear (s : State) (d : ResetDraw) : State :=
  { s with
    E := true
    P := d.status
    D := 0x0000#16
    DBR := 0x00#8
    PBR := 0x00#8
    SP := mkWord 0x01#8 d.spl
    A := d.a
    X := d.xl.zeroExtend 16
    Y := d.yl.zeroExtend 16
    waiting := false
    stopped := false
    mv := .idle
    nmiPending := false
    irqPending := false }

/-- `reset()` (R420), from any state: the two vector reads are its only port accesses. -/
def State.doReset (s : State) (d : ResetDraw) : State :=
  let v := (s.clear d).read16 (inBank0 resetVector)
  { v.2 with PC := v.1 }

/-- `assert_irq()` (60_exceptions.md R383). -/
def State.assertIrq (s : State) : State :=
  { s with irqPending := true }

/-- `assert_nmi()` (R383). -/
def State.assertNmi (s : State) : State :=
  { s with nmiPending := true }

/-- Another bus master writes a byte between steps (R78, R399): the engine makes no access, so the record does not grow. -/
def State.busWrite (s : State) (a : Addr) (v : Byte) : State :=
  { s with mem := Memory.write s.mem a.toNat v }

/-- What an environment does between or as steps (R5). -/
inductive Event
  | executeOne
  | reset (draw : ResetDraw)
  | assertIrq
  | assertNmi
  | busWrite (addr : Addr) (value : Byte)
  /-- The port lines up the answers of its next reads (R60). -/
  | answers (script : List (Option Byte))
  deriving DecidableEq, Repr

/-- The effect of an event. -/
def perform (ev : Event) (s : State) : Host.Outcome State Fault Refusal :=
  match ev with
  | .executeOne => step s
  | .reset draw => .next (s.doReset draw)
  | .assertIrq => .next s.assertIrq
  | .assertNmi => .next s.assertNmi
  | .busWrite addr value => .next (s.busWrite addr value)
  | .answers script => .next { s with script := script }

/-- What inspection shows (10_state.md R40): the register file from `A` to `E`. -/
structure Registers where
  A : Word
  X : Word
  Y : Word
  SP : Word
  PC : Word
  PBR : Byte
  DBR : Byte
  D : Word
  P : Byte
  E : Bool
  deriving DecidableEq, Repr

/-- Read-only inspection (R40). -/
def State.inspect (s : State) : Registers :=
  { A := s.A, X := s.X, Y := s.Y, SP := s.SP, PC := s.PC, PBR := s.PBR, DBR := s.DBR, D := s.D, P := s.P, E := s.E }

end Sys2Proof.Machine
end

