-- ==== Sys2Proof/Safety.lean ====
section
/-! DEFINITION. The terms the claims are stated in: the invariant of 10_state.md R36, and what an operation leaves alone. -/

namespace Sys2Proof.Machine

/-- The invariants of R36, and the canonical form of memory.
Item 3 (16-bit `PC`, `SP`, `D`) is in the types; item 4 is about the step and stated of it. Item 5's clause about the opcode
byte at the moment the latch was set is not a property of a state (notes/assumptions/10.md). -/
structure State.Inv (s : State) : Prop where
  /-- R36 item 1: `E = 1 ⇒ P.M = 1 ∧ P.X = 1 ∧ SP.h = $01`. -/
  emulation : s.E = true → s.flag .M = true ∧ s.flag .X = true ∧ hi8 s.SP = 0x01#8
  /-- R36 item 2: `P.X = 1 ⇒ X.h = $00 ∧ Y.h = $00`. -/
  index : s.flag .X = true → hi8 s.X = 0x00#8 ∧ hi8 s.Y = 0x00#8
  /-- R36 item 5: `MV = Active(..) ⇒ A ≠ $FFFF`. -/
  move : s.mv ≠ .idle → s.A ≠ 0xFFFF#16
  /-- The model's own: memory is in its canonical form. -/
  memory : s.mem.wf = true

/-- The byte RAM holds at an address. -/
def State.ram (s : State) (a : Addr) : Byte :=
  Memory.read s.mem a.toNat

/-- Every flag outside the list keeps its value. -/
def KeepsFlags (written : List Flag) (s t : State) : Prop :=
  ∀ f, f ∉ written → t.flag f = s.flag f

/-- Every byte of memory outside the list keeps its value. -/
def KeepsRamExcept (stored : List Addr) (s t : State) : Prop :=
  ∀ a, a ∉ stored → t.ram a = s.ram a

/-- Nothing but the port's side of a read differs: the answers used up and the record. -/
def PortOnly (s t : State) : Prop :=
  t = { s with script := t.script, trace := t.trace }

/-- Nothing but the port differs: RAM, the answers used up and the record. -/
def StoreOnly (s t : State) : Prop :=
  t = { s with mem := t.mem, script := t.script, trace := t.trace }

/-- The addresses an operand of width `w` at an effective address occupies (40_addressing_modes.md R120). -/
def EffAddr.span (ea : EffAddr) : Width → List Addr
  | .w8 => [ea.addr]
  | .w16 => [ea.addr, ea.next.addr]

/-- The record of a store, newest first, in front of an earlier record: the low byte is written first (20_memory.md R74). -/
def storeRecord (ea : EffAddr) (w : Width) (v : Word) (tr : List Access) : List Access :=
  match w with
  | .w8 => .write ea.addr (lo8 v) :: tr
  | .w16 => .write ea.next.addr (hi8 v) :: .write ea.addr (lo8 v) :: tr

/-- `t` holds in RAM, at an effective address, the bytes of `v` at a width, low byte first, and differs from `s` in no
other byte. The bytes are claimed where `s`'s memory is in canonical form, and `t`'s is then too. -/
def HoldsValue (ea : EffAddr) (w : Width) (v : Word) (s t : State) : Prop :=
  KeepsRamExcept (ea.span w) s t ∧
    (s.mem.wf = true → t.mem.wf = true ∧ t.ram ea.addr = lo8 v ∧ (w = .w16 → t.ram ea.next.addr = hi8 v))

/-- `s` after one `read_byte` at each of these addresses in order (20_memory.md R60, R62, R64): each uses up one answer and
goes on record; nothing else differs. -/
def State.afterReads (s : State) : List Addr → State
  | [] => s
  | a :: rest => State.afterReads { s with script := s.script.tail, trace := .read a (s.answer a) :: s.trace } rest

/-- What the port answers to those reads, in order. -/
def State.answers (s : State) : List Addr → List Byte
  | [] => []
  | a :: rest =>
    s.answer a :: State.answers { s with script := s.script.tail, trace := .read a (s.answer a) :: s.trace } rest

/-- The number bytes stand for, the first the least significant (R62, R66). -/
def littleEndian : List Byte → Nat
  | [] => 0
  | b :: rest => b.toNat + 256 * littleEndian rest

/-- `t` is `s` after a value of a width is stored at a memory form: the address is the resolver's, the pointer reads are
made before the writes, and nothing but the port differs. -/
def StoresAt (mode : DataMode) (w : Width) (v : Word) (s t : State) : Prop :=
  StoreOnly s t ∧ HoldsValue (s.resolve mode).1 w v s t ∧ t.script = (s.resolve mode).2.script ∧
    t.trace = storeRecord (s.resolve mode).1 w v (s.resolve mode).2.trace

/-- `A` at a width is `v`, and at width 8 its high byte is as before (10_state.md R21). -/
def AccumulatorIs (v : Word) (w : Width) (s t : State) : Prop :=
  t.readA w = v ∧ (w = .w8 → hi8 t.A = hi8 s.A)

/-- N is the top bit of `v` at its width, and Z says that `v` is zero (10_state.md R28). -/
def FlagsNZ (v : Word) (w : Width) (t : State) : Prop :=
  t.flag .N = topBit v w ∧ t.flag .Z = decide (v = 0)

/-- A value of a width read as a two's complement number (42_arithmetic_logic.md R210). -/
def signedAt (v : Word) (w : Width) : Int :=
  if topBit v w then (v.toNat : Int) - 2 ^ w.bits else v.toNat

/-- Every one of the `n` lowest digits is 0 to 9 (R207, "valid BCD"). -/
def validBcd : Nat → Nat → Prop
  | 0, _ => True
  | n + 1, v => v % 16 ≤ 9 ∧ validBcd n (v / 16)

/-- The number the `n` lowest digits write in decimal. -/
def bcdValue : Nat → Nat → Nat
  | 0, _ => 0
  | n + 1, v => v % 16 + 10 * bcdValue n (v / 16)

/-- Exactly these opcode bytes have this mnemonic (30_encoding.md R96). -/
def HasOpcodes (n : Mnemonic) (ops : List Byte) : Prop :=
  ∀ i : Instr, i.mnemonic = n ↔ i.opcode ∈ ops

/-- `t` is `s` after the bytes are pushed in order (20_memory.md R68): each at the `SP` of its moment in bank 0, newest record
first, each byte then in RAM, no other byte of RAM touched. -/
def Pushes : List Byte → State → State → Prop
  | [], s, t => t = s
  | b :: rest, s, t => ∃ u : State,
      u = { s with SP := stackDown s.E s.SP, mem := u.mem, trace := .write (mkAddr 0 s.SP) b :: s.trace } ∧
        HoldsValue (inBank0 s.SP) .w8 (b.zeroExtend 16) s u ∧ Pushes rest u t

/-- `t` is `s` after these bytes are pulled in order (R69): `SP` steps up, then the port answers the byte at `{$00, SP}`; the
record is newest first and nothing else differs. -/
def Pulls : List Byte → State → State → Prop
  | [], s, t => t = s
  | b :: rest, s, t =>
    b = s.answer (mkAddr 0 (stackUp s.E s.SP)) ∧
      Pulls rest
        { s with
          SP := stackUp s.E s.SP
          script := s.script.tail
          trace := .read (mkAddr 0 (stackUp s.E s.SP)) b :: s.trace } t

/-- Stage 6 is reached: the engine runs, nothing is serviced, no block move is in progress (30_encoding.md R90). -/
def State.Fetches (s : State) : Prop :=
  s.stopped = false ∧ s.waiting = false ∧ s.nmiPending = false ∧ (s.irqPending = false ∨ s.flag .I = true) ∧ s.mv = .idle

/-- The instruction's bytes stand in RAM at `{PBR, PC}`, wrapping inside the bank (20_memory.md R72). -/
def State.HoldsAt (s : State) (o : Word) : List Byte → Prop
  | [] => True
  | b :: rest => s.ram (mkAddr s.PBR o) = b ∧ s.HoldsAt (o + 1) rest

/-- The record of fetching bytes from `{bank, o}` on, newest first, in front of an earlier record. -/
def fetchRecord (bank : Byte) : Word → List Byte → List Access → List Access
  | _, [], tr => tr
  | o, b :: rest, tr => fetchRecord bank (o + 1) rest (.read (mkAddr bank o) b :: tr)

end Sys2Proof.Machine
end

