-- ==== Sys2Proof/Certificates/Slice0/Obligations.lean ====
section
/-! DEFINITION. The statements for the provers, from the numbered rules of spec/. Each docstring names the rule. -/

namespace Sys2Proof

/-- Row `0x` of the matrix of R96, as mnemonic and format (R92). -/
def matrixRow0 : List (Mnemonic × Format) :=
  [(.BRK, .SIG), (.ORA, .IDPX), (.COP, .SIG), (.ORA, .SR),
   (.TSB, .DP), (.ORA, .DP), (.ASL, .DP), (.ORA, .ILDP),
   (.PHP, .IMP), (.ORA, .IMMM), (.ASL, .ACC), (.PHD, .IMP),
   (.TSB, .ABS), (.ORA, .ABS), (.ASL, .ABS), (.ORA, .LONG)]

/-- Row `1x` of the matrix of R96, as mnemonic and format (R92). -/
def matrixRow1 : List (Mnemonic × Format) :=
  [(.BPL, .REL8), (.ORA, .IDPY), (.ORA, .IDP), (.ORA, .ISRY),
   (.TRB, .DP), (.ORA, .DPX), (.ASL, .DPX), (.ORA, .ILDPY),
   (.CLC, .IMP), (.ORA, .ABSY), (.INC, .ACC), (.TCS, .IMP),
   (.TRB, .ABS), (.ORA, .ABSX), (.ASL, .ABSX), (.ORA, .LONGX)]

/-- Row `2x` of the matrix of R96, as mnemonic and format (R92). -/
def matrixRow2 : List (Mnemonic × Format) :=
  [(.JSR, .JABS), (.AND, .IDPX), (.JSL, .JLONG), (.AND, .SR),
   (.BIT, .DP), (.AND, .DP), (.ROL, .DP), (.AND, .ILDP),
   (.PLP, .IMP), (.AND, .IMMM), (.ROL, .ACC), (.PLD, .IMP),
   (.BIT, .ABS), (.AND, .ABS), (.ROL, .ABS), (.AND, .LONG)]

/-- Row `3x` of the matrix of R96, as mnemonic and format (R92). -/
def matrixRow3 : List (Mnemonic × Format) :=
  [(.BMI, .REL8), (.AND, .IDPY), (.AND, .IDP), (.AND, .ISRY),
   (.BIT, .DPX), (.AND, .DPX), (.ROL, .DPX), (.AND, .ILDPY),
   (.SEC, .IMP), (.AND, .ABSY), (.DEC, .ACC), (.TSC, .IMP),
   (.BIT, .ABSX), (.AND, .ABSX), (.ROL, .ABSX), (.AND, .LONGX)]

/-- Row `4x` of the matrix of R96, as mnemonic and format (R92). -/
def matrixRow4 : List (Mnemonic × Format) :=
  [(.RTI, .IMP), (.EOR, .IDPX), (.WDM, .SIG), (.EOR, .SR),
   (.MVP, .BLK), (.EOR, .DP), (.LSR, .DP), (.EOR, .ILDP),
   (.PHA, .IMP), (.EOR, .IMMM), (.LSR, .ACC), (.PHK, .IMP),
   (.JMP, .JABS), (.EOR, .ABS), (.LSR, .ABS), (.EOR, .LONG)]

/-- Row `5x` of the matrix of R96, as mnemonic and format (R92). -/
def matrixRow5 : List (Mnemonic × Format) :=
  [(.BVC, .REL8), (.EOR, .IDPY), (.EOR, .IDP), (.EOR, .ISRY),
   (.MVN, .BLK), (.EOR, .DPX), (.LSR, .DPX), (.EOR, .ILDPY),
   (.CLI, .IMP), (.EOR, .ABSY), (.PHY, .IMP), (.TCD, .IMP),
   (.JML, .JLONG), (.EOR, .ABSX), (.LSR, .ABSX), (.EOR, .LONGX)]

/-- Row `6x` of the matrix of R96, as mnemonic and format (R92). -/
def matrixRow6 : List (Mnemonic × Format) :=
  [(.RTS, .IMP), (.ADC, .IDPX), (.PER, .REL16), (.ADC, .SR),
   (.STZ, .DP), (.ADC, .DP), (.ROR, .DP), (.ADC, .ILDP),
   (.PLA, .IMP), (.ADC, .IMMM), (.ROR, .ACC), (.RTL, .IMP),
   (.JMP, .JIABS), (.ADC, .ABS), (.ROR, .ABS), (.ADC, .LONG)]

/-- Row `7x` of the matrix of R96, as mnemonic and format (R92). -/
def matrixRow7 : List (Mnemonic × Format) :=
  [(.BVS, .REL8), (.ADC, .IDPY), (.ADC, .IDP), (.ADC, .ISRY),
   (.STZ, .DPX), (.ADC, .DPX), (.ROR, .DPX), (.ADC, .ILDPY),
   (.SEI, .IMP), (.ADC, .ABSY), (.PLY, .IMP), (.TDC, .IMP),
   (.JMP, .JIABSX), (.ADC, .ABSX), (.ROR, .ABSX), (.ADC, .LONGX)]

/-- Row `8x` of the matrix of R96, as mnemonic and format (R92). -/
def matrixRow8 : List (Mnemonic × Format) :=
  [(.BRA, .REL8), (.STA, .IDPX), (.BRL, .REL16), (.STA, .SR),
   (.STY, .DP), (.STA, .DP), (.STX, .DP), (.STA, .ILDP),
   (.DEY, .IMP), (.BIT, .IMMM), (.TXA, .IMP), (.PHB, .IMP),
   (.STY, .ABS), (.STA, .ABS), (.STX, .ABS), (.STA, .LONG)]

/-- Row `9x` of the matrix of R96, as mnemonic and format (R92). -/
def matrixRow9 : List (Mnemonic × Format) :=
  [(.BCC, .REL8), (.STA, .IDPY), (.STA, .IDP), (.STA, .ISRY),
   (.STY, .DPX), (.STA, .DPX), (.STX, .DPY), (.STA, .ILDPY),
   (.TYA, .IMP), (.STA, .ABSY), (.TXS, .IMP), (.TXY, .IMP),
   (.STZ, .ABS), (.STA, .ABSX), (.STZ, .ABSX), (.STA, .LONGX)]

/-- Row `Ax` of the matrix of R96, as mnemonic and format (R92). -/
def matrixRowA : List (Mnemonic × Format) :=
  [(.LDY, .IMMX), (.LDA, .IDPX), (.LDX, .IMMX), (.LDA, .SR),
   (.LDY, .DP), (.LDA, .DP), (.LDX, .DP), (.LDA, .ILDP),
   (.TAY, .IMP), (.LDA, .IMMM), (.TAX, .IMP), (.PLB, .IMP),
   (.LDY, .ABS), (.LDA, .ABS), (.LDX, .ABS), (.LDA, .LONG)]

/-- Row `Bx` of the matrix of R96, as mnemonic and format (R92). -/
def matrixRowB : List (Mnemonic × Format) :=
  [(.BCS, .REL8), (.LDA, .IDPY), (.LDA, .IDP), (.LDA, .ISRY),
   (.LDY, .DPX), (.LDA, .DPX), (.LDX, .DPY), (.LDA, .ILDPY),
   (.CLV, .IMP), (.LDA, .ABSY), (.TSX, .IMP), (.TYX, .IMP),
   (.LDY, .ABSX), (.LDA, .ABSX), (.LDX, .ABSY), (.LDA, .LONGX)]

/-- Row `Cx` of the matrix of R96, as mnemonic and format (R92). -/
def matrixRowC : List (Mnemonic × Format) :=
  [(.CPY, .IMMX), (.CMP, .IDPX), (.REP, .IMM8), (.CMP, .SR),
   (.CPY, .DP), (.CMP, .DP), (.DEC, .DP), (.CMP, .ILDP),
   (.INY, .IMP), (.CMP, .IMMM), (.DEX, .IMP), (.WAI, .IMP),
   (.CPY, .ABS), (.CMP, .ABS), (.DEC, .ABS), (.CMP, .LONG)]

/-- Row `Dx` of the matrix of R96, as mnemonic and format (R92). -/
def matrixRowD : List (Mnemonic × Format) :=
  [(.BNE, .REL8), (.CMP, .IDPY), (.CMP, .IDP), (.CMP, .ISRY),
   (.PEI, .IDP), (.CMP, .DPX), (.DEC, .DPX), (.CMP, .ILDPY),
   (.CLD, .IMP), (.CMP, .ABSY), (.PHX, .IMP), (.STP, .IMP),
   (.JML, .JILABS), (.CMP, .ABSX), (.DEC, .ABSX), (.CMP, .LONGX)]

/-- Row `Ex` of the matrix of R96, as mnemonic and format (R92). -/
def matrixRowE : List (Mnemonic × Format) :=
  [(.CPX, .IMMX), (.SBC, .IDPX), (.SEP, .IMM8), (.SBC, .SR),
   (.CPX, .DP), (.SBC, .DP), (.INC, .DP), (.SBC, .ILDP),
   (.INX, .IMP), (.SBC, .IMMM), (.NOP, .IMP), (.XBA, .IMP),
   (.CPX, .ABS), (.SBC, .ABS), (.INC, .ABS), (.SBC, .LONG)]

/-- Row `Fx` of the matrix of R96, as mnemonic and format (R92). -/
def matrixRowF : List (Mnemonic × Format) :=
  [(.BEQ, .REL8), (.SBC, .IDPY), (.SBC, .IDP), (.SBC, .ISRY),
   (.PEA, .IMM16), (.SBC, .DPX), (.INC, .DPX), (.SBC, .ILDPY),
   (.SED, .IMP), (.SBC, .ABSY), (.PLX, .IMP), (.XCE, .IMP),
   (.JSR, .JIABSX), (.SBC, .ABSX), (.INC, .ABSX), (.SBC, .LONGX)]

/-- The opcode matrix of R96: 256 cells in opcode order. -/
def opcodeMatrix : List (Mnemonic × Format) :=
  matrixRow0 ++ matrixRow1 ++ matrixRow2 ++ matrixRow3 ++ matrixRow4 ++ matrixRow5 ++ matrixRow6 ++ matrixRow7 ++
    matrixRow8 ++ matrixRow9 ++ matrixRowA ++ matrixRowB ++ matrixRowC ++ matrixRowD ++ matrixRowE ++ matrixRowF

end Sys2Proof

open Sys2Proof Sys2Proof.Machine

/-! ## Encoding -/

/-- Decoding an encoded well-formed instruction gives it back, with every operand at every value, whatever bytes follow
(R92 to R95). -/
def Obligations.DecodeOfEncodeIsTheInstruction : Prop :=
  ∀ (m x : Bool) (i : Instr) (rest : List Byte),
    i.wellFormed m x = true → decode m x (encode i ++ rest) = .ok (i, rest)

/-- What the decoder reads is a well-formed instruction whose encoding is exactly the bytes used: no two encodings of one
instruction, no bit ignored (R91 to R94). -/
def Obligations.EncodeOfDecodeIsTheBytes : Prop :=
  ∀ (m x : Bool) (bytes : List Byte) (i : Instr) (rest : List Byte),
    decode m x bytes = .ok (i, rest) → encode i ++ rest = bytes ∧ i.wellFormed m x = true

/-- Every opcode byte, whatever follows it and whatever the widths, is the mnemonic and format of its cell of the matrix of
R96; the matrix has 256 cells. -/
def Obligations.OpcodeMatrixGivesMnemonicAndFormat : Prop :=
  opcodeMatrix.length = 256 ∧
    ∀ (op : Byte) (f : Fields), opcodeMatrix[op.toNat]? = some ((decodeOpcode op f).mnemonic, (decodeOpcode op f).format)

/-- The number of operand bytes is R94's, an instruction is one to four bytes long, and the twelve immediates of R95 are the
only opcodes whose length depends on the width flags. -/
def Obligations.LengthDependsOnWidthsOnlyForTwelveImmediates : Prop :=
  (∀ (m x : Bool) (i : Instr), i.wellFormed m x = true →
    (encode i).length = 1 + operandCount i.opcode m x ∧ 1 ≤ (encode i).length ∧ (encode i).length ≤ 4) ∧
  (∀ op : Byte,
    (∃ m x m' x' : Bool, operandCount op m x ≠ operandCount op m' x') ↔
      op ∈ ([0x09, 0x29, 0x49, 0x69, 0x89, 0xA9, 0xC9, 0xE9, 0xA0, 0xA2, 0xC0, 0xE0] : List Byte)) ∧
  (∀ m x : Bool,
    (∀ op ∈ ([0x09, 0x29, 0x49, 0x69, 0x89, 0xA9, 0xC9, 0xE9] : List Byte), operandCount op m x = if m then 1 else 2) ∧
    (∀ op ∈ ([0xA0, 0xA2, 0xC0, 0xE0] : List Byte), operandCount op m x = if x then 1 else 2))

/-- Bytes of the example column of R99 decode to the instruction of its syntax column. -/
def Obligations.ExampleBytesDecode : Prop :=
  decode true true [0x18] = .ok (.clc, []) ∧
  decode true true [0x0A] = .ok (.aslAcc, []) ∧
  decode true true [0xA9, 0x12] = .ok (.ldaImm (.b8 0x12), []) ∧
  decode false false [0xA9, 0x34, 0x12] = .ok (.ldaImm (.b16 0x1234), []) ∧
  decode true true [0xF4, 0x34, 0x12] = .ok (.pea 0x1234, []) ∧
  decode true true [0xB6, 0x12] = .ok (.ldxDpY 0x12, []) ∧
  decode true true [0xB3, 0x01] = .ok (.ldaISrY 0x01, []) ∧
  decode true true [0xAF, 0x56, 0x34, 0x12] = .ok (.ldaLong 0x123456, []) ∧
  decode true true [0x22, 0x45, 0x23, 0x01] = .ok (.jsl 0x012345, []) ∧
  decode true true [0x54, 0x7F, 0x7E] = .ok (.mvn 0x7F 0x7E, [])

/-! ## The step -/

/-- Where the bytes at `{PBR, PC}` in RAM are those of a well-formed instruction, and stage 6 of R90 is reached with the port
answering from RAM, the step is `exec` of it, in the state whose `PC` is past the instruction (inside its bank) and whose
record has the fetches in ascending order. -/
def Obligations.StepRunsTheDecodedInstruction : Prop :=
  ∀ (s : State) (i : Instr), s.Fetches → s.script = [] → i.wellFormed (s.flag .M) (s.flag .X) = true →
    s.HoldsAt s.PC (encode i) →
    step s = exec i { s with
      PC := s.PC + BitVec.ofNat 16 (encode i).length
      trace := fetchRecord s.PBR s.PC (encode i) s.trace }

/-- The same where the port answers the instruction's bytes by itself, whatever RAM holds (R60, R91). -/
def Obligations.StepRunsTheAnsweredInstruction : Prop :=
  ∀ (s : State) (i : Instr) (rest : List (Option Byte)), s.Fetches → i.wellFormed (s.flag .M) (s.flag .X) = true →
    s.script = (encode i).map some ++ rest →
    step s = exec i { s with
      PC := s.PC + BitVec.ofNat 16 (encode i).length
      script := rest
      trace := fetchRecord s.PBR s.PC (encode i) s.trace }

/-- The engine never faults or refuses: every instruction, in every state, has a next state, and so has every step; a step is
the present state while `Stopped`, or `Waiting` with nothing pending; only `reset()` leaves `Stopped` (R6). -/
def Obligations.EveryStepAnswersANextState : Prop :=
  (∀ (i : Instr) (s : State), ∃ t, exec i s = .next t) ∧ (∀ s : State, ∃ t, step s = .next t) ∧
  (∀ s : State, s.stopped = true ∨ s.waiting = true ∧ s.nmiPending = false ∧ s.irqPending = false → step s = .next s) ∧
  (∀ (ev : Event) (s t : State), s.stopped = true → perform ev s = .next t → t.stopped = false → ∃ d, ev = .reset d)

/-- While `Stopped` is 1 a step changes no field and makes no access, whatever is pending (R33, R393). In every state the
assertions set their latch, change nothing else, and may be repeated (R35, R383), so a stopped engine stays as it is. -/
def Obligations.StoppedStepChangesNothing : Prop :=
  (∀ s : State, s.stopped = true →
    step s = .next s ∧ step s.assertIrq = .next s.assertIrq ∧ step s.assertNmi = .next s.assertNmi) ∧
  ∀ s : State, s.assertIrq = { s with irqPending := true } ∧ s.assertNmi = { s with nmiPending := true } ∧
    perform .assertIrq s = .next { s with irqPending := true } ∧ perform .assertNmi s = .next { s with nmiPending := true }

/-- A waiting step: with nothing pending it changes nothing; a pending NMI, or an IRQ with `P.I = 0`, is serviced in that same
step; an IRQ with `P.I = 1` only wakes, stays pending, and the same step goes on as if not waiting (R392). -/
def Obligations.WaitingStepWakesOnlyOnAssertion : Prop :=
  ∀ s : State, s.stopped = false → s.waiting = true →
    (s.nmiPending = false → s.irqPending = false → step s = .next s) ∧
    (s.nmiPending = true →
      step s = .next ({ s with waiting := false, nmiPending := false, mv := .idle }.takeInterrupt .nmi)) ∧
    (s.nmiPending = false → s.irqPending = true → s.flag .I = false →
      step s = .next ({ s with waiting := false, irqPending := false, mv := .idle }.takeInterrupt .irq)) ∧
    (s.nmiPending = false → s.irqPending = true → s.flag .I = true → step s = step { s with waiting := false })

/-- Pending interrupts of a running engine: an NMI is serviced first, whatever `P.I` is, and leaves a pending IRQ pending; an
IRQ is serviced only while `P.I = 0`; a masked IRQ stays pending and an instruction, or a byte of a move, runs
(R383 to R386). -/
def Obligations.NmiBeforeIrqAndIrqMaskedByI : Prop :=
  ∀ s : State, s.stopped = false → s.waiting = false →
    (s.nmiPending = true → ∃ t, step s = .next t ∧ t = { s with nmiPending := false, mv := .idle }.takeInterrupt .nmi ∧
      t.nmiPending = false ∧ t.irqPending = s.irqPending ∧ t.mv = .idle ∧ t.flag .I = true) ∧
    (s.nmiPending = false → s.irqPending = true → s.flag .I = false →
      ∃ t, step s = .next t ∧ t = { s with irqPending := false, mv := .idle }.takeInterrupt .irq ∧
        t.irqPending = false ∧ t.mv = .idle ∧ t.flag .I = true) ∧
    (s.nmiPending = false → s.irqPending = true → s.flag .I = true →
      ∃ t, step s = .next t ∧ t.irqPending = true ∧ t.nmiPending = false)

/-! ## Reset -/

/-- What `reset()` leaves, from any state, for every draw of the unspecified values and whatever the port answers: the two
bytes of the vector are read, low byte first, and nothing else is accessed (R420, R38). On flat RAM they are what RAM
holds. -/
def Obligations.ResetLeavesTheSpecifiedValues : Prop :=
  ∀ (s : State) (d : ResetDraw),
    let t := s.doReset d
    let reads := s.afterReads [0x00FFFC, 0x00FFFD]
    t.E = true ∧ t.flag .M = true ∧ t.flag .X = true ∧ t.flag .I = true ∧ t.flag .D = false ∧
    t.flag .N = d.n ∧ t.flag .V = d.v ∧ t.flag .Z = d.z ∧ t.flag .C = d.c ∧
    t.D = 0 ∧ t.DBR = 0 ∧ t.PBR = 0 ∧ t.SP = mkWord 0x01 d.spl ∧ t.A = d.a ∧
    t.X = mkWord 0x00 d.xl ∧ t.Y = mkWord 0x00 d.yl ∧
    t.waiting = false ∧ t.stopped = false ∧ t.mv = .idle ∧ t.nmiPending = false ∧ t.irqPending = false ∧
    (∃ l h, s.answers [0x00FFFC, 0x00FFFD] = [l, h] ∧ t.PC = mkWord h l) ∧
    t.mem = s.mem ∧ t.script = reads.script ∧ t.trace = reads.trace ∧
    (s.script = [] → t.PC = mkWord (s.ram 0x00FFFD) (s.ram 0x00FFFC) ∧
      t.trace = .read 0x00FFFD (s.ram 0x00FFFD) :: .read 0x00FFFC (s.ram 0x00FFFC) :: s.trace)

/-- `reset()` makes the invariant true from any state whose memory is in canonical form (R36, R420). -/
def Obligations.ResetEstablishesTheInvariant : Prop :=
  ∀ (s : State) (d : ResetDraw), s.mem.wf = true → (s.doReset d).Inv

/-- The state after reset meets the invariant. Its zero draws are the model's choice (notes/assumptions/3.md); the claim does
not rest on them. -/
def Obligations.ResetStateMeetsTheInvariant : Prop :=
  State.reset.Inv ∧ ∃ d : ResetDraw, State.reset = { State.reset with trace := [] }.doReset d

/-! ## Invariants -/

/-- Every step keeps the invariants of R36. -/
def Obligations.StepKeepsTheInvariant : Prop :=
  ∀ s t : State, s.Inv → step s = .next t → t.Inv

/-- So does whatever the environment does: `execute_one()`, `reset()`, the two assertions, another bus master's write, new
answers of the port (R5, R36). -/
def Obligations.EveryEventKeepsTheInvariant : Prop :=
  ∀ (ev : Event) (s t : State), s.Inv → perform ev s = .next t → t.Inv

/-! ## Whole-machine rules -/

/-- `PBR` is written only by JML, JSL, RTL, RTI in native mode, and the entries of BRK and COP, which set it to `$00` (R25). -/
def Obligations.OnlyLongTransfersWritePbr : Prop :=
  ∀ (i : Instr) (s t : State), exec i s = .next t → t.PBR ≠ s.PBR →
    i.mnemonic ∈ [Mnemonic.JML, .JSL, .RTL] ∨ (i.mnemonic = .RTI ∧ s.E = false) ∨
      (i.mnemonic ∈ [Mnemonic.BRK, .COP] ∧ t.PBR = 0)

/-- `E` is written by no instruction but XCE: a step that changes it executed an XCE (R27, R396). -/
def Obligations.OnlyXceChangesTheMode : Prop :=
  (∀ (i : Instr) (s t : State), exec i s = .next t → t.E ≠ s.E → i.mnemonic = .XCE) ∧
    ∀ s t : State, step s = .next t → t.E ≠ s.E → ∃ w, s.wake = some w ∧ w.fetch.1 = .xce

/-- `DBR` is written only by PLB and block moves, `D` only by TCD and PLD, and `SP` only by pushes, pulls, calls, returns,
software interrupts, RTI, TXS, TCS and XCE (R24, R30, R31). -/
def Obligations.WritersOfDbrDAndSp : Prop :=
  ∀ (i : Instr) (s t : State), exec i s = .next t →
    (t.DBR ≠ s.DBR → i.mnemonic ∈ [Mnemonic.PLB, .MVN, .MVP]) ∧
    (t.D ≠ s.D → i.mnemonic ∈ [Mnemonic.TCD, .PLD]) ∧
    (t.SP ≠ s.SP → i.mnemonic ∈
      [Mnemonic.PHA, .PHX, .PHY, .PHP, .PHB, .PHD, .PHK, .PLA, .PLX, .PLY, .PLP, .PLB, .PLD, .PEA, .PEI, .PER,
       .JSR, .JSL, .RTS, .RTL, .BRK, .COP, .RTI, .TXS, .TCS, .XCE])

/-- What writes each flag, the table of R37: the instructions and the software interrupts. -/
def Obligations.WritersOfEachFlag : Prop :=
  ∀ (i : Instr) (s t : State), exec i s = .next t →
    (t.flag .N ≠ s.flag .N → i.mnemonic ∈
      [Mnemonic.LDA, .LDX, .LDY, .AND, .ORA, .EOR, .ADC, .SBC, .CMP, .CPX, .CPY, .INC, .DEC, .INX, .INY, .DEX, .DEY,
       .ASL, .LSR, .ROL, .ROR, .TAX, .TAY, .TXA, .TYA, .TSX, .TXY, .TYX, .TCD, .TDC, .TSC, .XBA, .PLA, .PLX, .PLY,
       .PLB, .PLD, .BIT, .PLP, .RTI, .REP, .SEP]) ∧
    (t.flag .V ≠ s.flag .V → i.mnemonic ∈ [Mnemonic.ADC, .SBC, .BIT, .CLV, .PLP, .RTI, .REP, .SEP]) ∧
    (t.flag .M ≠ s.flag .M → i.mnemonic ∈ [Mnemonic.PLP, .RTI, .REP, .SEP, .XCE]) ∧
    (t.flag .X ≠ s.flag .X → i.mnemonic ∈ [Mnemonic.PLP, .RTI, .REP, .SEP, .XCE]) ∧
    (t.flag .D ≠ s.flag .D → i.mnemonic ∈ [Mnemonic.SED, .CLD, .PLP, .RTI, .REP, .SEP, .BRK, .COP]) ∧
    (t.flag .I ≠ s.flag .I → i.mnemonic ∈ [Mnemonic.SEI, .CLI, .PLP, .RTI, .REP, .SEP, .BRK, .COP]) ∧
    (t.flag .Z ≠ s.flag .Z → i.mnemonic ∈
      [Mnemonic.LDA, .LDX, .LDY, .AND, .ORA, .EOR, .ADC, .SBC, .CMP, .CPX, .CPY, .INC, .DEC, .INX, .INY, .DEX, .DEY,
       .ASL, .LSR, .ROL, .ROR, .TAX, .TAY, .TXA, .TYA, .TSX, .TXY, .TYX, .TCD, .TDC, .TSC, .XBA, .PLA, .PLX, .PLY,
       .PLB, .PLD, .BIT, .TSB, .TRB, .PLP, .RTI, .REP, .SEP]) ∧
    (t.flag .C ≠ s.flag .C → i.mnemonic ∈
      [Mnemonic.ADC, .SBC, .CMP, .CPX, .CPY, .ASL, .LSR, .ROL, .ROR, .CLC, .SEC, .XCE, .PLP, .RTI, .REP, .SEP])

/-- An instruction that is no store, no read-modify-write, no push, no call, no software interrupt and no block move changes
no byte of memory (R200, R240, R310 and the rules of each family). -/
def Obligations.OnlyStoringInstructionsChangeMemory : Prop :=
  ∀ (i : Instr) (s t : State), exec i s = .next t → t.mem ≠ s.mem →
    i.mnemonic ∈
      [Mnemonic.STA, .STX, .STY, .STZ, .TSB, .TRB, .PHA, .PHX, .PHY, .PHP, .PHB, .PHD, .PHK, .PEA, .PEI, .PER,
       .JSR, .JSL, .BRK, .COP, .MVN, .MVP] ∨
    (i.mnemonic ∈ [Mnemonic.ASL, .LSR, .ROL, .ROR, .INC, .DEC] ∧ i.operand ≠ .acc)

/-- `Waiting` is set by WAI only, `Stopped` by STP only, `MV` by block moves only, and no instruction touches a pending latch
(R32 to R35). -/
def Obligations.WritersOfTheControlSubState : Prop :=
  ∀ (i : Instr) (s t : State), exec i s = .next t →
    (t.waiting ≠ s.waiting → i.mnemonic = .WAI ∧ t.waiting = true) ∧
    (t.stopped ≠ s.stopped → i.mnemonic = .STP ∧ t.stopped = true) ∧
    (t.mv ≠ s.mv → i.mnemonic ∈ [Mnemonic.MVN, .MVP]) ∧
    t.nmiPending = s.nmiPending ∧ t.irqPending = s.irqPending

/-! ## Memory, operands, stack -/

/-- One `read_byte`: the port answers what its script says, and where that says nothing what RAM holds; the access is put on
record and no register, flag or byte of RAM changes (R60). -/
def Obligations.PortReadAnswersAndIsRecorded : Prop :=
  ∀ (s : State) (a : Addr),
    (∀ (b : Byte) (rest : List (Option Byte)), s.script = some b :: rest →
      s.readByte a = (b, { s with script := rest, trace := .read a b :: s.trace })) ∧
    (∀ rest : List (Option Byte), s.script = none :: rest →
      s.readByte a = (s.ram a, { s with script := rest, trace := .read a (s.ram a) :: s.trace })) ∧
    (s.script = [] → s.readByte a = (s.ram a, { s with trace := .read a (s.ram a) :: s.trace }))

/-- A 16-bit store followed by loads of the same address, on flat RAM: the word comes back, an 8-bit load returns the low
byte, the byte after is the high byte, in either kind of address (R66). -/
def Obligations.WordStoreReadsBackLittleEndian : Prop :=
  ∀ (s : State) (ea : EffAddr) (v : Word), s.mem.wf = true → s.script = [] →
    ((s.writeOp ea .w16 v).readOp ea .w16).1 = v ∧
    ((s.writeOp ea .w16 v).readOp ea .w8).1.toNat = v.toNat % 256 ∧
    ((s.writeOp ea .w16 v).readOp ea.next .w8).1.toNat = v.toNat / 256

/-- The addresses of the modes that read no pointer: bank 0 modulo 65536 for the direct-page and stack forms, 24 bits for the
forms with `DBR` or a long address; nothing is read (R122 to R129, R135). -/
def Obligations.EffectiveAddressesWithoutPointer : Prop :=
  ∀ (s : State) (b : Byte) (o : Word) (l : Addr),
    (let r := s.resolve (.dp b)
     r.2 = s ∧ r.1.reach = .wrap ∧ r.1.addr.toNat = (s.D.toNat + b.toNat) % 65536) ∧
    (let r := s.resolve (.dpX b)
     r.2 = s ∧ r.1.reach = .wrap ∧ r.1.addr.toNat = (s.D.toNat + b.toNat + s.X.toNat) % 65536) ∧
    (let r := s.resolve (.dpY b)
     r.2 = s ∧ r.1.reach = .wrap ∧ r.1.addr.toNat = (s.D.toNat + b.toNat + s.Y.toNat) % 65536) ∧
    (let r := s.resolve (.sr b)
     r.2 = s ∧ r.1.reach = .wrap ∧ r.1.addr.toNat = (s.SP.toNat + b.toNat) % 65536) ∧
    (let r := s.resolve (.abs o)
     r.2 = s ∧ r.1.reach = .lin ∧ r.1.addr.toNat = 65536 * s.DBR.toNat + o.toNat) ∧
    (let r := s.resolve (.absX o)
     r.2 = s ∧ r.1.reach = .lin ∧ r.1.addr.toNat = (65536 * s.DBR.toNat + o.toNat + s.X.toNat) % 2 ^ 24) ∧
    (let r := s.resolve (.absY o)
     r.2 = s ∧ r.1.reach = .lin ∧ r.1.addr.toNat = (65536 * s.DBR.toNat + o.toNat + s.Y.toNat) % 2 ^ 24) ∧
    (let r := s.resolve (.long l)
     r.2 = s ∧ r.1.reach = .lin ∧ r.1.addr = l) ∧
    (let r := s.resolve (.longX l)
     r.2 = s ∧ r.1.reach = .lin ∧ r.1.addr.toNat = (l.toNat + s.X.toNat) % 2 ^ 24)

/-- The addresses of the indirect modes, whatever the port answers: the pointer's bytes are read in bank 0, wrapping there, in
ascending order, and nothing else happens; they give, the first the least significant, the address with `DBR` or, for
the long pointers, with their own bank. On flat RAM the answers are what RAM holds (R130 to R134, R136, R62, R64, R74). -/
def Obligations.EffectiveAddressesThroughPointer : Prop :=
  ∀ (s : State) (b : Byte),
    let at_ := fun o : Nat => (BitVec.ofNat 24 (o % 65536) : Addr)
    let word := fun o : Nat => [at_ o, at_ (o + 1)]
    let long := fun o : Nat => [at_ o, at_ (o + 1), at_ (o + 2)]
    let d := s.D.toNat + b.toNat
    let p := s.SP.toNat + b.toNat
    let bank := 65536 * s.DBR.toNat
    let goes := fun (mode : DataMode) (pointer : List Addr) (addr : Nat) =>
      (s.resolve mode).2 = s.afterReads pointer ∧ (s.resolve mode).1.reach = .lin ∧ (s.resolve mode).1.addr.toNat = addr
    goes (.idp b) (word d) (bank + littleEndian (s.answers (word d))) ∧
    goes (.idpX b) (word (d + s.X.toNat)) (bank + littleEndian (s.answers (word (d + s.X.toNat)))) ∧
    goes (.idpY b) (word d) ((bank + littleEndian (s.answers (word d)) + s.Y.toNat) % 2 ^ 24) ∧
    goes (.ildp b) (long d) (littleEndian (s.answers (long d))) ∧
    goes (.ildpY b) (long d) ((littleEndian (s.answers (long d)) + s.Y.toNat) % 2 ^ 24) ∧
    goes (.isrY b) (word p) ((bank + littleEndian (s.answers (word p)) + s.Y.toNat) % 2 ^ 24) ∧
    (s.script = [] → ∀ addrs, s.answers addrs = addrs.map s.ram)

/-- `Operand(w)`: an immediate is its literal and nothing is read (that a one-byte literal at width 16, which no step meets, is
zero-extended is the model's choice, notes/assumptions/6.md); a memory operand is read after the pointer, the byte at the
effective address first and at width 16 then the byte after it, and is what the port answers, low byte first; on flat
RAM that is what RAM holds; nothing but the port differs (R120, R121, R160, R62, R64, R74). -/
def Obligations.OperandIsTheLiteralOrTheBytesAtItsAddress : Prop :=
  (∀ (s : State) (b : Byte) (w : Width), s.readSource (.imm (.b8 b)) w = (b.zeroExtend 16, s)) ∧
  (∀ (s : State) (v : Word), s.readSource (.imm (.b16 v)) .w16 = (v, s)) ∧
  (∀ (s : State) (mode : DataMode) (w : Width),
    let ea := (s.resolve mode).1
    let p := (s.resolve mode).2
    let addrs := match w with
      | .w8 => [ea.addr]
      | .w16 => [ea.addr, ea.next.addr]
    (s.readSource (.mem mode) w).2 = p.afterReads addrs ∧
    (s.readSource (.mem mode) w).1.toNat = littleEndian (p.answers addrs) ∧
    PortOnly s (s.readSource (.mem mode) w).2 ∧
    (s.script = [] →
      (s.readSource (.mem mode) w).1.toNat =
        match w with
        | .w8 => (s.ram ea.addr).toNat
        | .w16 => (s.ram ea.addr).toNat + 256 * (s.ram ea.next.addr).toNat)) ∧
  (∀ a k, (⟨a, k⟩ : EffAddr).next.addr.toNat =
    match k with
    | .lin => (a.toNat + 1) % 2 ^ 24
    | .wrap => 65536 * (a.toNat / 65536) + (a.toNat % 65536 + 1) % 65536)

/-- A pull after a push gives the byte back and restores `SP`, and 16-bit pulls give back 16-bit pushes, in both modes where
`SP` is legal for the mode; in emulation mode `SP` stays in page 1 after either (R68 to R71, R24). -/
def Obligations.PullUndoesPush : Prop :=
  ∀ (s : State) (b : Byte) (v : Word), s.mem.wf = true → s.script = [] → (s.E = true → hi8 s.SP = 0x01) →
    (s.push8 b).pull8.1 = b ∧ (s.push8 b).pull8.2.SP = s.SP ∧
    (s.push16 v).pull16.1 = v ∧ (s.push16 v).pull16.2.SP = s.SP ∧
    (s.E = true → hi8 (s.push8 b).SP = 0x01 ∧ hi8 (s.push16 v).SP = 0x01 ∧ hi8 s.pull8.2.SP = 0x01)

/-- `SetNZ(v, w)` and `SetP(v)` (R28, R29). -/
def Obligations.SetNzAndSetPWriteTheirFlags : Prop :=
  (∀ (s : State) (v : Word) (w : Width),
    let t := s.setNZ v w
    t = { s with P := t.P } ∧ t.flag .N = v.getLsbD (w.bits - 1) ∧
      (t.flag .Z = true ↔ v.toNat % 2 ^ w.bits = 0) ∧ KeepsFlags [.N, .Z] s t) ∧
  (∀ (s : State) (p : Byte),
    let t := s.setP p
    t = { s with P := t.P, X := t.X, Y := t.Y } ∧
      (s.E = false → t.P = p) ∧
      (s.E = true → t.flag .M = true ∧ t.flag .X = true ∧ ∀ f, f ≠ .M → f ≠ .X → t.flag f = getFlag p f) ∧
      (t.flag .X = true → t.X.toNat = s.X.toNat % 256 ∧ t.Y.toNat = s.Y.toNat % 256) ∧
      (t.flag .X = false → t.X = s.X ∧ t.Y = s.Y))

/-! ## Loads, stores, transfers -/

/-- LDA, all fifteen forms (R161): `A` takes the operand at width `wM`, N and Z follow it, nothing else but the port differs. -/
def Obligations.LdaLoadsTheAccumulator : Prop :=
  HasOpcodes .LDA [0xA1, 0xA3, 0xA5, 0xA7, 0xA9, 0xAD, 0xAF, 0xB1, 0xB2, 0xB3, 0xB5, 0xB7, 0xB9, 0xBD, 0xBF] ∧
  ∀ (i : Instr) (s : State), i.mnemonic = .LDA → ∃ src, i.operand.source? = some src ∧
    let v := s.readSource src s.wM
    ∃ t, exec i s = .next t ∧ t = { s with A := t.A, P := t.P, script := v.2.script, trace := v.2.trace } ∧
      AccumulatorIs v.1 s.wM s t ∧ FlagsNZ v.1 s.wM t ∧ KeepsFlags [.N, .Z] s t

/-- LDX and LDY, all five forms each (R162, R163): the whole register takes the operand, zero-extended at width 8. -/
def Obligations.LdxAndLdyLoadTheIndex : Prop :=
  HasOpcodes .LDX [0xA2, 0xA6, 0xAE, 0xB6, 0xBE] ∧ HasOpcodes .LDY [0xA0, 0xA4, 0xAC, 0xB4, 0xBC] ∧
  (∀ (i : Instr) (s : State), i.mnemonic = .LDX → ∃ src, i.operand.source? = some src ∧
    let v := s.readSource src s.wX
    ∃ t, exec i s = .next t ∧ t = { s with X := v.1, P := t.P, script := v.2.script, trace := v.2.trace } ∧
      FlagsNZ v.1 s.wX t ∧ KeepsFlags [.N, .Z] s t) ∧
  (∀ (i : Instr) (s : State), i.mnemonic = .LDY → ∃ src, i.operand.source? = some src ∧
    let v := s.readSource src s.wX
    ∃ t, exec i s = .next t ∧ t = { s with Y := v.1, P := t.P, script := v.2.script, trace := v.2.trace } ∧
      FlagsNZ v.1 s.wX t ∧ KeepsFlags [.N, .Z] s t)

/-- STA, STX, STY, STZ, all forms (R164 to R167): the register, or zero, is stored at the effective address at its width, low
byte first; no register and no flag changes, and no other byte of memory. -/
def Obligations.StoresWriteOnlyTheirBytes : Prop :=
  HasOpcodes .STA [0x81, 0x83, 0x85, 0x87, 0x8D, 0x8F, 0x91, 0x92, 0x93, 0x95, 0x97, 0x99, 0x9D, 0x9F] ∧ HasOpcodes .STX [0x86, 0x8E, 0x96] ∧ HasOpcodes .STY [0x84, 0x8C, 0x94] ∧ HasOpcodes .STZ [0x64, 0x74, 0x9C, 0x9E] ∧
  ∀ (i : Instr) (s : State), i.mnemonic ∈ [Mnemonic.STA, .STX, .STY, .STZ] →
    ∃ mode, i.operand.mode? = some mode ∧ ∃ t, exec i s = .next t ∧
      (i.mnemonic = .STA → StoresAt mode s.wM s.A s t) ∧
      (i.mnemonic = .STX → StoresAt mode s.wX s.X s t) ∧
      (i.mnemonic = .STY → StoresAt mode s.wX s.Y s t) ∧
      (i.mnemonic = .STZ → StoresAt mode s.wM 0 s t)

/-- TAX, TAY, TXA, TYA, TSX, TXS, TXY, TYX (R171 to R178): the copy at the width of the destination, N and Z from it except for
TXS, nothing else. -/
def Obligations.RegisterTransfersCopyAtDestinationWidth : Prop :=
  ∀ s : State,
    (∃ t, exec .tax s = .next t ∧ t = { s with X := s.A &&& s.wX.mask, P := t.P } ∧
      FlagsNZ t.X s.wX t ∧ KeepsFlags [.N, .Z] s t) ∧
    (∃ t, exec .tay s = .next t ∧ t = { s with Y := s.A &&& s.wX.mask, P := t.P } ∧
      FlagsNZ t.Y s.wX t ∧ KeepsFlags [.N, .Z] s t) ∧
    (∃ t, exec .txa s = .next t ∧ t = { s with A := t.A, P := t.P } ∧ AccumulatorIs (s.X &&& s.wM.mask) s.wM s t ∧
      FlagsNZ (s.X &&& s.wM.mask) s.wM t ∧ KeepsFlags [.N, .Z] s t) ∧
    (∃ t, exec .tya s = .next t ∧ t = { s with A := t.A, P := t.P } ∧ AccumulatorIs (s.Y &&& s.wM.mask) s.wM s t ∧
      FlagsNZ (s.Y &&& s.wM.mask) s.wM t ∧ KeepsFlags [.N, .Z] s t) ∧
    (∃ t, exec .tsx s = .next t ∧ t = { s with X := s.SP &&& s.wX.mask, P := t.P } ∧
      FlagsNZ t.X s.wX t ∧ KeepsFlags [.N, .Z] s t) ∧
    (∃ t, exec .txy s = .next t ∧ t = { s with Y := s.X &&& s.wX.mask, P := t.P } ∧
      FlagsNZ t.Y s.wX t ∧ KeepsFlags [.N, .Z] s t) ∧
    (∃ t, exec .tyx s = .next t ∧ t = { s with X := s.Y &&& s.wX.mask, P := t.P } ∧
      FlagsNZ t.X s.wX t ∧ KeepsFlags [.N, .Z] s t) ∧
    exec .txs s = .next { s with SP := if s.E then mkWord 0x01 (lo8 s.X) else s.X }

/-- TCD, TCS, TDC, TSC move all 16 bits whatever `P.M` is, TCS with `SP.h = $01` in emulation mode and no flag; XBA swaps the
bytes of `A`, with N and Z from the new low byte (R180 to R184). -/
def Obligations.SixteenBitTransfersAndXba : Prop :=
  ∀ s : State,
    (∃ t, exec .tcd s = .next t ∧ t = { s with D := s.A, P := t.P } ∧ FlagsNZ s.A .w16 t ∧ KeepsFlags [.N, .Z] s t) ∧
    (∃ t, exec .tdc s = .next t ∧ t = { s with A := s.D, P := t.P } ∧ FlagsNZ s.D .w16 t ∧ KeepsFlags [.N, .Z] s t) ∧
    (∃ t, exec .tsc s = .next t ∧ t = { s with A := s.SP, P := t.P } ∧ FlagsNZ s.SP .w16 t ∧ KeepsFlags [.N, .Z] s t) ∧
    exec .tcs s = .next { s with SP := if s.E then mkWord 0x01 (lo8 s.A) else s.A } ∧
    (∃ t, exec .xba s = .next t ∧ t = { s with A := mkWord (lo8 s.A) (hi8 s.A), P := t.P } ∧
      t.flag .N = (hi8 s.A).getLsbD 7 ∧ t.flag .Z = decide (hi8 s.A = 0) ∧ KeepsFlags [.N, .Z] s t)

/-! ## Arithmetic and logic -/

/-- ORA, AND, EOR, all fifteen forms each (R201 to R203). -/
def Obligations.LogicWritesTheAccumulator : Prop :=
  HasOpcodes .ORA [0x01, 0x03, 0x05, 0x07, 0x09, 0x0D, 0x0F, 0x11, 0x12, 0x13, 0x15, 0x17, 0x19, 0x1D, 0x1F] ∧
  HasOpcodes .AND [0x21, 0x23, 0x25, 0x27, 0x29, 0x2D, 0x2F, 0x31, 0x32, 0x33, 0x35, 0x37, 0x39, 0x3D, 0x3F] ∧
  HasOpcodes .EOR [0x41, 0x43, 0x45, 0x47, 0x49, 0x4D, 0x4F, 0x51, 0x52, 0x53, 0x55, 0x57, 0x59, 0x5D, 0x5F] ∧
  ∀ (i : Instr) (s : State), i.mnemonic ∈ [Mnemonic.ORA, .AND, .EOR] → ∃ src, i.operand.source? = some src ∧
    let m := s.readSource src s.wM
    let a := s.readA s.wM
    ∃ t r, exec i s = .next t ∧ t = { s with A := t.A, P := t.P, script := m.2.script, trace := m.2.trace } ∧
      (i.mnemonic = .ORA → r = a ||| m.1) ∧ (i.mnemonic = .AND → r = a &&& m.1) ∧ (i.mnemonic = .EOR → r = a ^^^ m.1) ∧
      AccumulatorIs r s.wM s t ∧ FlagsNZ r s.wM t ∧ KeepsFlags [.N, .Z] s t

/-- ADC with `P.D = 0`, all fifteen forms (R204, R206, R209): the sum modulo `2^w`, C the carry out, V set when the operands
have the same sign and the result has the other, N and Z of the result. -/
def Obligations.AdcBinaryAddsWithCarry : Prop :=
  HasOpcodes .ADC [0x61, 0x63, 0x65, 0x67, 0x69, 0x6D, 0x6F, 0x71, 0x72, 0x73, 0x75, 0x77, 0x79, 0x7D, 0x7F] ∧
  ∀ (i : Instr) (s : State), i.mnemonic = .ADC → ∃ src, i.operand.source? = some src ∧ (s.flag .D = false →
    let m := s.readSource src s.wM
    let sum := (s.readA s.wM).toNat + m.1.toNat + (s.flag .C).toNat
    ∃ t r, exec i s = .next t ∧ t = { s with A := t.A, P := t.P, script := m.2.script, trace := m.2.trace } ∧
      r.toNat = sum % 2 ^ s.wM.bits ∧ AccumulatorIs r s.wM s t ∧ FlagsNZ r s.wM t ∧
      t.flag .C = decide (2 ^ s.wM.bits ≤ sum) ∧
      t.flag .V = (topBit (s.readA s.wM) s.wM == topBit m.1 s.wM && topBit (s.readA s.wM) s.wM != topBit r s.wM) ∧
      KeepsFlags [.N, .V, .Z, .C] s t)

/-- SBC with `P.D = 0`, all fifteen forms (R205): `a − m − (1 − C)` modulo `2^w`, C exactly when no borrow occurred, V exactly
when the signed difference is outside the signed range. -/
def Obligations.SbcBinarySubtractsWithBorrow : Prop :=
  HasOpcodes .SBC [0xE1, 0xE3, 0xE5, 0xE7, 0xE9, 0xED, 0xEF, 0xF1, 0xF2, 0xF3, 0xF5, 0xF7, 0xF9, 0xFD, 0xFF] ∧
  ∀ (i : Instr) (s : State), i.mnemonic = .SBC → ∃ src, i.operand.source? = some src ∧ (s.flag .D = false →
    let m := s.readSource src s.wM
    let a := s.readA s.wM
    let diff : Int := a.toNat - m.1.toNat - (1 - (s.flag .C).toNat)
    let signed : Int := signedAt a s.wM - signedAt m.1 s.wM - (1 - (s.flag .C).toNat)
    ∃ t r, exec i s = .next t ∧ t = { s with A := t.A, P := t.P, script := m.2.script, trace := m.2.trace } ∧
      (r.toNat : Int) = diff % 2 ^ s.wM.bits ∧ AccumulatorIs r s.wM s t ∧ FlagsNZ r s.wM t ∧
      t.flag .C = decide (0 ≤ diff) ∧
      t.flag .V = decide (signed < -2 ^ (s.wM.bits - 1) ∨ 2 ^ (s.wM.bits - 1) ≤ signed) ∧
      KeepsFlags [.N, .V, .Z, .C] s t)

/-- ADC and SBC with `P.D = 1` on valid BCD operands, both widths, all forms: the decimal sum and difference modulo
`10^(w/4)`, C exactly when the true sum reaches it, exactly when no borrow occurred; N and Z of the corrected result. On any
operands they complete, write only `A` and the four flags, and V is the overflow formula on the corrected result (R204,
R205, R207 to R209; the algorithm behind R207 and R208 is the spec's own decision D13). -/
def Obligations.DecimalAddAndSubtract : Prop :=
  ∀ (i : Instr) (s : State), i.mnemonic ∈ [Mnemonic.ADC, .SBC] → ∃ src, i.operand.source? = some src ∧ (s.flag .D = true →
    let m := s.readSource src s.wM
    let a := s.readA s.wM
    let n := s.wM.bits / 4
    ∃ t r, exec i s = .next t ∧ t = { s with A := t.A, P := t.P, script := m.2.script, trace := m.2.trace } ∧
      AccumulatorIs r s.wM s t ∧ FlagsNZ r s.wM t ∧ KeepsFlags [.N, .V, .Z, .C] s t ∧
      (i.mnemonic = .ADC → t.flag .V = overflow a m.1 r s.wM) ∧
      (i.mnemonic = .SBC → t.flag .V = overflow a (complementAt m.1 s.wM) r s.wM) ∧
      (validBcd n a.toNat → validBcd n m.1.toNat →
        validBcd n r.toNat ∧
        (i.mnemonic = .ADC →
          let sum := bcdValue n a.toNat + bcdValue n m.1.toNat + (s.flag .C).toNat
          bcdValue n r.toNat = sum % 10 ^ n ∧ t.flag .C = decide (10 ^ n ≤ sum)) ∧
        (i.mnemonic = .SBC →
          let diff : Int := bcdValue n a.toNat - bcdValue n m.1.toNat - (1 - (s.flag .C).toNat)
          (bcdValue n r.toNat : Int) = diff % 10 ^ n ∧ t.flag .C = decide (0 ≤ diff))))

/-- ASL, LSR, ROL, ROR, INC, DEC, all five forms each (R221 to R225, R261, R262): the value at the target, `v`, becomes `r`; the
location is read once and written once at the same address; C is the bit shifted off, and INC and DEC leave it. -/
def Obligations.ShiftsRotatesAndStepsModifyTheirTarget : Prop :=
  HasOpcodes .ASL [0x06, 0x0A, 0x0E, 0x16, 0x1E] ∧ HasOpcodes .LSR [0x46, 0x4A, 0x4E, 0x56, 0x5E] ∧
  HasOpcodes .ROL [0x26, 0x2A, 0x2E, 0x36, 0x3E] ∧ HasOpcodes .ROR [0x66, 0x6A, 0x6E, 0x76, 0x7E] ∧
  HasOpcodes .INC [0x1A, 0xE6, 0xEE, 0xF6, 0xFE] ∧ HasOpcodes .DEC [0x3A, 0xC6, 0xCE, 0xD6, 0xDE] ∧
  ∀ (i : Instr) (s : State), i.mnemonic ∈ [Mnemonic.ASL, .LSR, .ROL, .ROR, .INC, .DEC] →
    ∃ tgt, i.operand.target? = some tgt ∧
    let w := s.wM
    let v : Word := match tgt with
      | .acc => s.readA w
      | .mem mode => (s.readSource (.mem mode) w).1
    ∃ (t : State) (r : Word), exec i s = .next t ∧ r.toNat < 2 ^ w.bits ∧
      (i.mnemonic = .ASL → r.toNat = 2 * v.toNat % 2 ^ w.bits ∧ t.flag .C = topBit v w) ∧
      (i.mnemonic = .LSR → r.toNat = v.toNat / 2 ∧ t.flag .C = v.getLsbD 0) ∧
      (i.mnemonic = .ROL → r.toNat = (2 * v.toNat + (s.flag .C).toNat) % 2 ^ w.bits ∧ t.flag .C = topBit v w) ∧
      (i.mnemonic = .ROR → r.toNat = v.toNat / 2 + 2 ^ (w.bits - 1) * (s.flag .C).toNat ∧ t.flag .C = v.getLsbD 0) ∧
      (i.mnemonic = .INC → r.toNat = (v.toNat + 1) % 2 ^ w.bits ∧ t.flag .C = s.flag .C) ∧
      (i.mnemonic = .DEC → r.toNat = (v.toNat + 2 ^ w.bits - 1) % 2 ^ w.bits ∧ t.flag .C = s.flag .C) ∧
      FlagsNZ r w t ∧ KeepsFlags [.N, .Z, .C] s t ∧
      (tgt = .acc → t = { s with A := t.A, P := t.P } ∧ AccumulatorIs r w s t) ∧
      (∀ mode, tgt = .mem mode →
        let ea := (s.resolve mode).1
        t = { s with P := t.P, mem := t.mem, script := t.script, trace := t.trace } ∧ HoldsValue ea w r s t ∧
          t.script = (s.readSource (.mem mode) w).2.script ∧
          t.trace = storeRecord ea w r (s.readSource (.mem mode) w).2.trace)

/-- CMP, CPX, CPY, all forms (R241 to R243): C is register ≥ operand, unsigned; N and Z from the difference truncated to the
width; only `P` and the port differ. -/
def Obligations.ComparesSetFlagsOnly : Prop :=
  HasOpcodes .CMP [0xC1, 0xC3, 0xC5, 0xC7, 0xC9, 0xCD, 0xCF, 0xD1, 0xD2, 0xD3, 0xD5, 0xD7, 0xD9, 0xDD, 0xDF] ∧ HasOpcodes .CPX [0xE0, 0xE4, 0xEC] ∧ HasOpcodes .CPY [0xC0, 0xC4, 0xCC] ∧
  ∀ (i : Instr) (s : State), i.mnemonic ∈ [Mnemonic.CMP, .CPX, .CPY] → ∃ src, i.operand.source? = some src ∧
    let w := if i.mnemonic = .CMP then s.wM else s.wX
    let a := (if i.mnemonic = .CMP then s.A else if i.mnemonic = .CPX then s.X else s.Y) &&& w.mask
    let m := s.readSource src w
    ∃ (t : State) (d : Word), exec i s = .next t ∧ t = { s with P := t.P, script := m.2.script, trace := m.2.trace } ∧
      t.flag .C = decide (m.1.toNat ≤ a.toNat) ∧ d.toNat = (a.toNat + 2 ^ w.bits - m.1.toNat) % 2 ^ w.bits ∧
      FlagsNZ d w t ∧ KeepsFlags [.N, .Z, .C] s t

/-- BIT, all five forms (R244): Z from `a & m`; the memory forms copy the operand's top two bits to N and V; only `P` and the
port differ. -/
def Obligations.BitTestsItsOperand : Prop :=
  HasOpcodes .BIT [0x24, 0x2C, 0x34, 0x3C, 0x89] ∧
  ∀ (i : Instr) (s : State), i.mnemonic = .BIT → ∃ src, i.operand.source? = some src ∧
    let m := s.readSource src s.wM
    ∃ t, exec i s = .next t ∧ t = { s with P := t.P, script := m.2.script, trace := m.2.trace } ∧
      t.flag .Z = decide (s.readA s.wM &&& m.1 = 0) ∧
      (i.format = .IMMM → KeepsFlags [.Z] s t) ∧
      (i.format ≠ .IMMM → t.flag .N = m.1.getLsbD (s.wM.bits - 1) ∧ t.flag .V = m.1.getLsbD (s.wM.bits - 2) ∧
        KeepsFlags [.N, .V, .Z] s t)

/-- TSB and TRB, both forms each (R245, R246): Z from `a & m` before the change, `m | a` or `m & ~a` stored at the same address;
only `P` and the port differ. -/
def Obligations.TsbAndTrbSetAndResetBits : Prop :=
  HasOpcodes .TSB [0x04, 0x0C] ∧ HasOpcodes .TRB [0x14, 0x1C] ∧
  ∀ (i : Instr) (s : State), i.mnemonic ∈ [Mnemonic.TSB, .TRB] → ∃ mode, i.operand.mode? = some mode ∧
    let ea := (s.resolve mode).1
    let m := s.readSource (.mem mode) s.wM
    let r := if i.mnemonic = .TSB then m.1 ||| s.readA s.wM else m.1 &&& ~~~(s.readA s.wM)
    ∃ t, exec i s = .next t ∧ t = { s with P := t.P, mem := t.mem, script := m.2.script, trace := t.trace } ∧
      t.flag .Z = decide (s.readA s.wM &&& m.1 = 0) ∧ KeepsFlags [.Z] s t ∧
      HoldsValue ea s.wM r s t ∧ t.trace = storeRecord ea s.wM r m.2.trace

/-- INX, INY, DEX, DEY (R263 to R266): one up or down modulo `2^wX`, N and Z from the result; nothing else. -/
def Obligations.IndexStepsWrapAtTheirWidth : Prop :=
  ∀ s : State,
    (∃ t, exec .inx s = .next t ∧ t = { s with X := t.X, P := t.P } ∧ t.X.toNat = (s.X.toNat + 1) % 2 ^ s.wX.bits ∧
      FlagsNZ t.X s.wX t ∧ KeepsFlags [.N, .Z] s t) ∧
    (∃ t, exec .iny s = .next t ∧ t = { s with Y := t.Y, P := t.P } ∧ t.Y.toNat = (s.Y.toNat + 1) % 2 ^ s.wX.bits ∧
      FlagsNZ t.Y s.wX t ∧ KeepsFlags [.N, .Z] s t) ∧
    (∃ t, exec .dex s = .next t ∧ t = { s with X := t.X, P := t.P } ∧
      t.X.toNat = (s.X.toNat + 65535) % 2 ^ s.wX.bits ∧ FlagsNZ t.X s.wX t ∧ KeepsFlags [.N, .Z] s t) ∧
    (∃ t, exec .dey s = .next t ∧ t = { s with Y := t.Y, P := t.P } ∧
      t.Y.toNat = (s.Y.toNat + 65535) % 2 ^ s.wX.bits ∧ FlagsNZ t.Y s.wX t ∧ KeepsFlags [.N, .Z] s t)

/-! ## Control flow -/

/-- The nine 8-bit branches and BRL (R281 to R291): taken, `PC` moves by the signed displacement inside the bank; not taken,
nothing changes. -/
def Obligations.BranchesMovePcInsideTheBank : Prop :=
  ∀ (s : State) (d : Byte) (e : Word),
    let target : Word := BitVec.ofInt 16 (s.PC.toNat + d.toInt)
    let branch := fun cond : Bool => (.next (if cond then { s with PC := target } else s) : Host.Outcome State Fault Refusal)
    exec (.bpl d) s = branch (!s.flag .N) ∧ exec (.bmi d) s = branch (s.flag .N) ∧
    exec (.bvc d) s = branch (!s.flag .V) ∧ exec (.bvs d) s = branch (s.flag .V) ∧
    exec (.bcc d) s = branch (!s.flag .C) ∧ exec (.bcs d) s = branch (s.flag .C) ∧
    exec (.bne d) s = branch (!s.flag .Z) ∧ exec (.beq d) s = branch (s.flag .Z) ∧
    exec (.bra d) s = branch true ∧
    exec (.brl e) s = .next { s with PC := BitVec.ofInt 16 (s.PC.toNat + e.toInt) }

/-- JMP and JML, all five forms, whatever the port answers (R292, R293, R137 to R141): only `PC`, for JML `PBR`, and the port
change. The pointer of `(abs)` and `[abs]` is read in bank 0, that of `(abs,X)` in the program bank, wrapping inside it,
in ascending order, low byte first (R64, R74). On flat RAM the answers are what RAM holds. -/
def Obligations.JumpsLoadTheirTarget : Prop :=
  ∀ (s : State) (o : Word) (l : Addr),
    let zero := fun k : Word => mkAddr 0x00 (o + k)
    let prog := fun k : Word => mkAddr s.PBR (o + s.X + k)
    exec (.jmpAbs o) s = .next { s with PC := o } ∧
    (∃ pl ph, s.answers [zero 0, zero 1] = [pl, ph] ∧
      exec (.jmpIAbs o) s = .next { s.afterReads [zero 0, zero 1] with PC := mkWord ph pl }) ∧
    (∃ pl ph, s.answers [prog 0, prog 1] = [pl, ph] ∧
      exec (.jmpIAbsX o) s = .next { s.afterReads [prog 0, prog 1] with PC := mkWord ph pl }) ∧
    exec (.jmlLong l) s = .next { s with PC := offsetOf l, PBR := bankOf l } ∧
    (∃ pl ph pb, s.answers [zero 0, zero 1, zero 2] = [pl, ph, pb] ∧
      exec (.jmlILAbs o) s = .next { s.afterReads [zero 0, zero 1, zero 2] with PC := mkWord ph pl, PBR := pb }) ∧
    (s.script = [] → ∀ addrs, s.answers addrs = addrs.map s.ram)

/-- JSR and JSL (R294, R295): the offset of the last byte of the instruction is pushed, high byte first, JSL pushing `PBR`
before it; then `PC`, for JSL `PBR` too, is loaded. JSR `(abs,X)` reads its pointer after the push, in the program bank,
low byte first. -/
def Obligations.CallsPushTheReturnAddress : Prop :=
  ∀ (s : State) (o : Word) (l : Addr),
    (∃ t u, exec (.jsrAbs o) s = .next t ∧ Pushes [hi8 (s.PC - 1), lo8 (s.PC - 1)] s u ∧ t = { u with PC := o }) ∧
    (∃ t u pl ph, exec (.jsrIAbsX o) s = .next t ∧ Pushes [hi8 (s.PC - 1), lo8 (s.PC - 1)] s u ∧
      let pointer := [mkAddr s.PBR (o + s.X), mkAddr s.PBR (o + s.X + 1)]
      u.answers pointer = [pl, ph] ∧ t = { u.afterReads pointer with PC := mkWord ph pl }) ∧
    (∃ t u, exec (.jsl l) s = .next t ∧ Pushes [s.PBR, hi8 (s.PC - 1), lo8 (s.PC - 1)] s u ∧
      t = { u with PC := offsetOf l, PBR := bankOf l })

/-- RTS and RTL (R296, R297): the pulled offset plus one, inside its bank; RTL pulls `PBR` after it. -/
def Obligations.ReturnsPullTheReturnAddress : Prop :=
  ∀ s : State,
    (∃ t u l h, exec .rts s = .next t ∧ Pulls [l, h] s u ∧ t = { u with PC := mkWord h l + 1 }) ∧
    (∃ t u l h b, exec .rtl s = .next t ∧ Pulls [l, h, b] s u ∧ t = { u with PC := mkWord h l + 1, PBR := b })

/-- RTL right after JSL comes back behind the JSL with `PBR` and `SP` as they were, and RTS right after JSR, in either
of its forms, likewise, in both modes (the property of 95_test_vectors.md S6, R294 to R297). -/
def Obligations.ReturnAfterCallComesBack : Prop :=
  ∀ (s : State) (l : Addr) (o : Word) (t u : State), s.mem.wf = true → s.script = [] → (s.E = true → hi8 s.SP = 0x01) →
    (exec (.jsl l) s = .next t → exec .rtl t = .next u →
      u.PC = s.PC ∧ u.PBR = s.PBR ∧ u.SP = s.SP ∧ u.P = s.P ∧ u.A = s.A ∧ u.X = s.X ∧ u.Y = s.Y) ∧
    (exec (.jsrAbs o) s = .next t → exec .rts t = .next u →
      u.PC = s.PC ∧ u.PBR = s.PBR ∧ u.SP = s.SP ∧ u.P = s.P ∧ u.A = s.A ∧ u.X = s.X ∧ u.Y = s.Y) ∧
    (exec (.jsrIAbsX o) s = .next t → exec .rts t = .next u →
      u.PC = s.PC ∧ u.PBR = s.PBR ∧ u.SP = s.SP ∧ u.P = s.P ∧ u.A = s.A ∧ u.X = s.X ∧ u.Y = s.Y)

/-! ## Stack -/

/-- PHA, PHX, PHY, PHP, PHB, PHD, PHK, PEA, PEI, PER (R311 to R317, R324 to R326): which bytes are pushed, in which order, at
which width, PEI's after its word is read, low byte first; nothing else changes. -/
def Obligations.PushInstructionsPushTheirBytes : Prop :=
  ∀ (s : State) (v : Word) (dp : Byte),
    let bytes := fun (r : Word) (w : Width) => if w = .w8 then [lo8 r] else [hi8 r, lo8 r]
    (∃ t, exec .pha s = .next t ∧ Pushes (bytes s.A s.wM) s t) ∧
    (∃ t, exec .phx s = .next t ∧ Pushes (bytes s.X s.wX) s t) ∧
    (∃ t, exec .phy s = .next t ∧ Pushes (bytes s.Y s.wX) s t) ∧
    (∃ t, exec .php s = .next t ∧ Pushes [s.P] s t) ∧
    (∃ t, exec .phb s = .next t ∧ Pushes [s.DBR] s t) ∧
    (∃ t, exec .phd s = .next t ∧ Pushes [hi8 s.D, lo8 s.D] s t) ∧
    (∃ t, exec .phk s = .next t ∧ Pushes [s.PBR] s t) ∧
    (∃ t, exec (.pea v) s = .next t ∧ Pushes [hi8 v, lo8 v] s t) ∧
    (∃ t l h, exec (.pei dp) s = .next t ∧
      let source := [mkAddr 0x00 (s.D + dp.zeroExtend 16), mkAddr 0x00 (s.D + dp.zeroExtend 16 + 1)]
      s.answers source = [l, h] ∧ Pushes [h, l] (s.afterReads source) t) ∧
    (∃ t, exec (.per v) s = .next t ∧ Pushes [hi8 (s.PC + v), lo8 (s.PC + v)] s t)

/-- PLA, PLX, PLY, PLB, PLD (R318 to R320, R322, R323): the bytes pulled, low byte first, at the width of the register; N and Z
from the value pulled; nothing else. -/
def Obligations.PullInstructionsLoadTheirRegister : Prop :=
  ∀ s : State,
    let value := fun bytes : List Byte => mkWord (bytes.getD 1 0) (bytes.getD 0 0)
    (∃ t u bytes, exec .pla s = .next t ∧ bytes.length = s.wM.bits / 8 ∧ Pulls bytes s u ∧
      t = { u with A := t.A, P := t.P } ∧ AccumulatorIs (value bytes) s.wM s t ∧ FlagsNZ (value bytes) s.wM t ∧
      KeepsFlags [.N, .Z] s t) ∧
    (∃ t u bytes, exec .plx s = .next t ∧ bytes.length = s.wX.bits / 8 ∧ Pulls bytes s u ∧
      t = { u with X := value bytes, P := t.P } ∧ FlagsNZ (value bytes) s.wX t ∧ KeepsFlags [.N, .Z] s t) ∧
    (∃ t u bytes, exec .ply s = .next t ∧ bytes.length = s.wX.bits / 8 ∧ Pulls bytes s u ∧
      t = { u with Y := value bytes, P := t.P } ∧ FlagsNZ (value bytes) s.wX t ∧ KeepsFlags [.N, .Z] s t) ∧
    (∃ t u b, exec .plb s = .next t ∧ Pulls [b] s u ∧ t = { u with DBR := b, P := t.P } ∧
      FlagsNZ (b.zeroExtend 16) .w8 t ∧ KeepsFlags [.N, .Z] s t) ∧
    (∃ t u l h, exec .pld s = .next t ∧ Pulls [l, h] s u ∧ t = { u with D := mkWord h l, P := t.P } ∧
      FlagsNZ (mkWord h l) .w16 t ∧ KeepsFlags [.N, .Z] s t)

/-! ## Processor control -/

/-- REP, SEP and PLP write `P` through `SetP` (R321, R348, R349); in emulation mode M and X stay 1. -/
def Obligations.RepSepAndPlpWriteP : Prop :=
  ∀ (s : State) (k : Byte),
    exec (.rep k) s = .next (s.setP (s.P &&& ~~~k)) ∧ exec (.sep k) s = .next (s.setP (s.P ||| k)) ∧
    (∃ t u b, exec .plp s = .next t ∧ Pulls [b] s u ∧ t = u.setP b) ∧
    (∀ t, exec (.rep k) s = .next t → ∀ f,
      t.flag f = if s.E && (f == .M || f == .X) then true else s.flag f && !getFlag k f) ∧
    (∀ t, exec (.sep k) s = .next t → ∀ f,
      t.flag f = if s.E && (f == .M || f == .X) then true else s.flag f || getFlag k f)

/-- CLC, SEC, CLI, SEI, CLD, SED, CLV touch nothing but the named bit (R341 to R347); NOP and WDM change nothing (R351, R352);
WAI sets `Waiting` and STP sets `Stopped`, and nothing else; the step after changes nothing while nothing is pending, and
after STP whatever is pending (R353, R354). -/
def Obligations.FlagNopWaitAndStopInstructions : Prop :=
  ∀ (s : State) (sig : Byte),
    let sets := fun (i : Instr) (f : Flag) (b : Bool) =>
      ∃ t, exec i s = .next t ∧ t = { s with P := t.P } ∧ t.flag f = b ∧ KeepsFlags [f] s t
    sets .clc .C false ∧ sets .sec .C true ∧ sets .cli .I false ∧ sets .sei .I true ∧
    sets .cld .D false ∧ sets .sed .D true ∧ sets .clv .V false ∧
    exec .nop s = .next s ∧ exec (.wdm sig) s = .next s ∧
    exec .wai s = .next { s with waiting := true } ∧ exec .stp s = .next { s with stopped := true } ∧
    (s.nmiPending = false → s.irqPending = false → step { s with waiting := true } = .next { s with waiting := true }) ∧
    step { s with stopped := true } = .next { s with stopped := true }

/-- XCE (R350): C and E change places; entering emulation forces M and X to 1, clears the index registers' high bytes and puts
`SP.h` at `$01`; leaving it changes nothing more. A second XCE gives E and C back. -/
def Obligations.XceExchangesCarryAndEmulation : Prop :=
  ∀ s : State, ∃ t, exec .xce s = .next t ∧
    t = { s with E := s.flag .C, P := t.P, X := t.X, Y := t.Y, SP := t.SP } ∧ t.flag .C = s.E ∧
    (s.flag .C = false → t.X = s.X ∧ t.Y = s.Y ∧ t.SP = s.SP ∧ KeepsFlags [.C] s t) ∧
    (s.flag .C = true → t.flag .M = true ∧ t.flag .X = true ∧ KeepsFlags [.C, .M, .X] s t ∧
      t.X = mkWord 0x00 (lo8 s.X) ∧ t.Y = mkWord 0x00 (lo8 s.Y) ∧ t.SP = mkWord 0x01 (lo8 s.SP)) ∧
    ∃ u, exec .xce t = .next u ∧ u.E = s.E ∧ u.flag .C = s.flag .C

/-- BRK and COP (R355, R356, R387, R388, R389): the frame is pushed, high address first, I is set and D cleared, `PBR` becomes
`$00` and `PC` the word at the vector, read after the pushes, low byte first; nothing else changes. -/
def Obligations.SoftwareInterruptsTakeTheirVector : Prop :=
  ∀ (s : State) (sig : Byte) (kind : InterruptKind) (i : Instr),
    (i = .brk sig ∧ kind = .brk) ∨ (i = .cop sig ∧ kind = .cop) →
    let vec : Word := match kind, s.E with
      | .cop, true => 0xFFF4
      | .cop, false => 0xFFE4
      | _, true => 0xFFFE
      | _, false => 0xFFE6
    let image : Byte := if s.E then s.P ||| 0x30 else s.P
    ∃ t u vl vh, exec i s = .next t ∧
      Pushes ((if s.E then [] else [s.PBR]) ++ [hi8 s.PC, lo8 s.PC, image]) s u ∧
      u.answers [mkAddr 0x00 vec, mkAddr 0x00 (vec + 1)] = [vl, vh] ∧
      t = { u.afterReads [mkAddr 0x00 vec, mkAddr 0x00 (vec + 1)] with P := t.P, PBR := 0x00, PC := mkWord vh vl } ∧
      t.flag .I = true ∧ t.flag .D = false ∧ KeepsFlags [.I, .D] s t

/-- The entry of IRQ and NMI (R387, R388): the same sequence with their own vectors; in emulation mode the pushed byte has bit 5
set and bit 4, the B flag, clear. -/
def Obligations.HardwareInterruptsTakeTheirVector : Prop :=
  ∀ (s : State) (kind : InterruptKind), kind ∈ [InterruptKind.irq, .nmi] →
    let vec : Word := match kind, s.E with
      | .nmi, true => 0xFFFA
      | .nmi, false => 0xFFEA
      | _, true => 0xFFFE
      | _, false => 0xFFEE
    ∃ (u : State) (image vl vh : Byte),
      (s.E = false → image = s.P) ∧
      (s.E = true → image.getLsbD 5 = true ∧ image.getLsbD 4 = false ∧
        ∀ k, k ≠ 5 → k ≠ 4 → image.getLsbD k = s.P.getLsbD k) ∧
      Pushes ((if s.E then [] else [s.PBR]) ++ [hi8 s.PC, lo8 s.PC, image]) s u ∧
      u.answers [mkAddr 0x00 vec, mkAddr 0x00 (vec + 1)] = [vl, vh] ∧
      let t := s.takeInterrupt kind
      t = { u.afterReads [mkAddr 0x00 vec, mkAddr 0x00 (vec + 1)] with P := t.P, PBR := 0x00, PC := mkWord vh vl } ∧
      t.flag .I = true ∧ t.flag .D = false ∧ KeepsFlags [.I, .D] s t

/-- RTI (R357): `P` through `SetP`, then `PC` low and high, and in native mode `PBR`; `PC` is used as pulled and `E` stays. -/
def Obligations.RtiPullsStatusThenProgramCounter : Prop :=
  ∀ s : State, ∃ t u p l h, exec .rti s = .next t ∧
    (s.E = true → Pulls [p, l, h] s u ∧ t = { u.setP p with PC := mkWord h l }) ∧
    (s.E = false → ∃ b, Pulls [p, l, h, b] s u ∧ t = { u.setP p with PC := mkWord h l, PBR := b })

/-- An RTI right after the entry of any interrupt restores the registers (R391): every register, flag and latch is as before;
only RAM, the record and, in emulation mode, `PBR` (which is then `$00`, R388) differ. -/
def Obligations.RtiRestoresTheInterruptedState : Prop :=
  ∀ (s : State) (kind : InterruptKind), s.Inv → s.script = [] →
    ∃ t, exec .rti (s.takeInterrupt kind) = .next t ∧
      t = { s with PBR := if s.E then 0x00 else s.PBR, mem := t.mem, trace := t.trace }

/-! ## Block moves -/

/-- One byte of a block move, at the first step of MVN or MVP and at every later step (R372 to R374): one byte read at
`{src, X}`, then written at `{dst, Y}`; X and Y step by one inside their width, `A` counts down at 16 bits; `PC` is on the
opcode and `DBR` as before until `A` reaches `$FFFF`, when `PC` passes the instruction, `DBR` becomes `dst` and the latch is
emptied. -/
def Obligations.BlockMoveStepMovesOneByte : Prop :=
  ∀ (s : State) (dir : Direction) (dst src : Byte) (s' : State) (o : Host.Outcome State Fault Refusal),
    ((o = exec (.mvn dst src) s ∧ dir = .up ∨ o = exec (.mvp dst src) s ∧ dir = .down) ∧ s'.PC = s.PC - 3 ∧
        s' = { s with PC := s'.PC, mv := .active dir dst src }) ∨
      (o = step s ∧ s' = s ∧ s.stopped = false ∧ s.waiting = false ∧ s.nmiPending = false ∧
        (s.irqPending = false ∨ s.flag .I = true) ∧ s.mv = .active dir dst src) →
    let srcAddr := mkAddr src s.X
    let dstAddr := mkAddr dst s.Y
    let v := s.answer srcAddr
    let next := fun r : Word => BitVec.ofInt 16 (((r.toNat : Int) + (if dir = .up then 1 else -1)) % 2 ^ s.wX.bits)
    let done := s.A - 1 = 0xFFFF
    ∃ t, o = .next t ∧
      t = { s' with
        A := s.A - 1
        X := next s.X
        Y := next s.Y
        PC := if done then s'.PC + 3 else s'.PC
        DBR := if done then dst else s.DBR
        mv := if done then .idle else .active dir dst src
        mem := t.mem
        script := s.script.tail
        trace := .write dstAddr v :: .read srcAddr v :: s.trace } ∧
      HoldsValue ⟨dstAddr, .lin⟩ .w8 (v.zeroExtend 16) s t

/-- A whole block move on flat RAM, from its fetch, with no interrupt to take: `A + 1` steps move `A + 1` bytes, leave
`A = $FFFF`, `PC` past the instruction, `DBR` at the destination bank and the latch empty, and, between two different banks,
leave at each destination offset the byte of its source offset; offsets step inside the index width (R372 to R375). -/
def Obligations.BlockMoveCopiesCountPlusOneBytes : Prop :=
  ∀ (s : State) (dir : Direction) (dst src : Byte) (i : Instr), s.Fetches → s.script = [] → s.mem.wf = true →
    (s.flag .X = true → hi8 s.X = 0 ∧ hi8 s.Y = 0) →
    (i = .mvn dst src ∧ dir = .up ∨ i = .mvp dst src ∧ dir = .down) → s.HoldsAt s.PC (encode i) →
    let n := s.A.toNat + 1
    let at_ := fun (r : Word) (k : Nat) =>
      (BitVec.ofInt 16 (((r.toNat : Int) + (if dir = .up then (k : Int) else -(k : Int))) % 2 ^ s.wX.bits) : Word)
    ∃ t, Host.Core.run Sys2Proof.core n s = .next t ∧
      t = { s with
        A := 0xFFFF
        X := at_ s.X n
        Y := at_ s.Y n
        PC := s.PC + 3
        DBR := dst
        mem := t.mem
        trace := t.trace } ∧
      (dst ≠ src → ∀ k, k < n → t.ram (mkAddr dst (at_ s.Y k)) = s.ram (mkAddr src (at_ s.X k)))

/-! ## Timing -/

/-- Each step of a block move returns 7: the repeats, and the first step (R437). -/
def Obligations.EachBlockMoveStepCostsSeven : Prop :=
  ∀ s : State, s.stopped = false → s.waiting = false → s.nmiPending = false → (s.irqPending = false ∨ s.flag .I = true) →
    (s.mv ≠ .idle → s.cycles = 7) ∧
    (s.mv = .idle → s.fetch.1.mnemonic ∈ [Mnemonic.MVN, .MVP] → s.cycles = 7)
end

