-- ==== Sys2Proof/Laws/Flags.lean ====
section
/-! SUPPORT. The laws of bytes inside words, of the status register's bits, and of widths. -/

namespace Sys2Proof

@[simp] theorem toNat_mkWord (h l : Byte) : (mkWord h l).toNat = 256 * h.toNat + l.toNat := by
  have := l.isLt
  simp only [mkWord, BitVec.toNat_append, Nat.shiftLeft_eq]
  rw [Nat.mul_comm, ← Nat.two_pow_add_eq_or_of_lt l.isLt]

@[simp] theorem toNat_mkAddr (b : Byte) (o : Word) : (mkAddr b o).toNat = 65536 * b.toNat + o.toNat := by
  have := o.isLt
  simp only [mkAddr, BitVec.toNat_append, Nat.shiftLeft_eq]
  rw [Nat.mul_comm, ← Nat.two_pow_add_eq_or_of_lt o.isLt]

theorem toNat_lo8 (v : Word) : (lo8 v).toNat = v.toNat % 256 := by
  simp [lo8]

theorem toNat_hi8 (v : Word) : (hi8 v).toNat = v.toNat / 256 := by
  have := v.isLt
  simp only [hi8, BitVec.extractLsb'_toNat, Nat.shiftRight_eq_div_pow]
  omega

theorem toNat_offsetOf (a : Addr) : (offsetOf a).toNat = a.toNat % 65536 := by
  simp [offsetOf]

theorem toNat_bankOf (a : Addr) : (bankOf a).toNat = a.toNat / 65536 := by
  have := a.isLt
  simp only [bankOf, BitVec.extractLsb'_toNat, Nat.shiftRight_eq_div_pow]
  omega

@[simp] theorem lo8_mkWord (h l : Byte) : lo8 (mkWord h l) = l := by
  apply BitVec.eq_of_toNat_eq
  have := l.isLt
  rw [toNat_lo8, toNat_mkWord]
  omega

@[simp] theorem hi8_mkWord (h l : Byte) : hi8 (mkWord h l) = h := by
  apply BitVec.eq_of_toNat_eq
  have := l.isLt
  rw [toNat_hi8, toNat_mkWord]
  omega

@[simp] theorem mkWord_hi8_lo8 (v : Word) : mkWord (hi8 v) (lo8 v) = v := by
  apply BitVec.eq_of_toNat_eq
  rw [toNat_mkWord, toNat_hi8, toNat_lo8]
  omega

@[simp] theorem offsetOf_mkAddr (b : Byte) (o : Word) : offsetOf (mkAddr b o) = o := by
  apply BitVec.eq_of_toNat_eq
  have := o.isLt
  rw [toNat_offsetOf, toNat_mkAddr]
  omega

@[simp] theorem bankOf_mkAddr (b : Byte) (o : Word) : bankOf (mkAddr b o) = b := by
  apply BitVec.eq_of_toNat_eq
  have := o.isLt
  rw [toNat_bankOf, toNat_mkAddr]
  omega

@[simp] theorem mkAddr_bankOf_offsetOf (a : Addr) : mkAddr (bankOf a) (offsetOf a) = a := by
  apply BitVec.eq_of_toNat_eq
  rw [toNat_mkAddr, toNat_bankOf, toNat_offsetOf]
  omega

theorem mkAddr_inj {b b' : Byte} {o o' : Word} : mkAddr b o = mkAddr b' o' ↔ b = b' ∧ o = o' := by
  constructor
  · intro h
    exact ⟨by rw [← bankOf_mkAddr b o, h, bankOf_mkAddr], by rw [← offsetOf_mkAddr b o, h, offsetOf_mkAddr]⟩
  · rintro ⟨rfl, rfl⟩; rfl

theorem mkWord_inj {h h' l l' : Byte} : mkWord h l = mkWord h' l' ↔ h = h' ∧ l = l' := by
  constructor
  · intro e
    exact ⟨by rw [← hi8_mkWord h l, e, hi8_mkWord], by rw [← lo8_mkWord h l, e, lo8_mkWord]⟩
  · rintro ⟨rfl, rfl⟩; rfl

@[simp] theorem hi8_zeroExtend (b : Byte) : hi8 (b.zeroExtend 16) = 0 := by
  apply BitVec.eq_of_toNat_eq
  have := b.isLt
  rw [toNat_hi8]
  simp
  omega

@[simp] theorem lo8_zeroExtend (b : Byte) : lo8 (b.zeroExtend 16) = b := by
  apply BitVec.eq_of_toNat_eq
  have := b.isLt
  rw [toNat_lo8]
  simp
  omega

theorem toNat_and_mask8 (v : Word) : (v &&& 0x00FF#16).toNat = v.toNat % 256 := by
  simp only [BitVec.toNat_and]
  exact Nat.and_two_pow_sub_one_eq_mod v.toNat 8

@[simp] theorem hi8_and_mask8 (v : Word) : hi8 (v &&& 0x00FF#16) = 0 := by
  apply BitVec.eq_of_toNat_eq
  rw [toNat_hi8, toNat_and_mask8]
  simp

@[simp] theorem lo8_and_mask8 (v : Word) : lo8 (v &&& 0x00FF#16) = lo8 v := by
  apply BitVec.eq_of_toNat_eq
  rw [toNat_lo8, toNat_and_mask8, toNat_lo8]
  omega

/-- A word whose high byte is zero is its low byte. -/
theorem and_mask8_of_hi8 (v : Word) (h : hi8 v = 0) : v &&& 0x00FF#16 = v := by
  apply BitVec.eq_of_toNat_eq
  rw [toNat_and_mask8]
  have := congrArg BitVec.toNat h
  rw [toNat_hi8] at this
  simp at this
  omega

namespace Machine

/-- A flag after one flag is written. -/
theorem getFlag_putFlag (p : Byte) (f : Flag) (b : Bool) (g : Flag) :
    getFlag (putFlag p f b) g = if g = f then b else getFlag p g := by
  cases b <;> cases f <;> cases g <;> simp [getFlag, putFlag, Flag.bit]

@[simp] theorem getFlag_putFlag_same (p : Byte) (f : Flag) (b : Bool) : getFlag (putFlag p f b) f = b := by
  simp [getFlag_putFlag]

@[simp] theorem getFlag_putFlag_ne (p : Byte) (f : Flag) (b : Bool) (g : Flag) (h : g ≠ f) :
    getFlag (putFlag p f b) g = getFlag p g := by
  simp [getFlag_putFlag, h]

/-- Two status bytes with the same flags are equal. -/
theorem status_ext (p q : Byte) (h : ∀ f, getFlag p f = getFlag q f) : p = q := by
  apply BitVec.eq_of_getLsbD_eq
  intro k hk
  have hN := h .N; have hV := h .V; have hM := h .M; have hX := h .X
  have hD := h .D; have hI := h .I; have hZ := h .Z; have hC := h .C
  simp only [getFlag, Flag.bit] at hN hV hM hX hD hI hZ hC
  interval_cases k <;> assumption

/-- Writing a flag with its own value changes nothing. -/
@[simp] theorem putFlag_getFlag (p : Byte) (f : Flag) : putFlag p f (getFlag p f) = p := by
  apply status_ext
  intro g
  rw [getFlag_putFlag]
  split
  · next h => rw [h]
  · rfl

/-- The flags after `SetNZ` (10_state.md R28). -/
theorem getFlag_setNZ (p : Byte) (v : Word) (w : Width) (f : Flag) :
    getFlag (setNZ p v w) f =
      if f = .Z then decide (v &&& w.mask = 0) else if f = .N then topBit v w else getFlag p f := by
  simp only [setNZ, getFlag_putFlag]

theorem getFlag_addFlags (p : Byte) (a m : Word) (r : Word × Bool) (w : Width) (f : Flag) :
    getFlag (addFlags p a m r w) f =
      if f = .Z then decide (r.1 &&& w.mask = 0) else if f = .N then topBit r.1 w
      else if f = .V then overflow a m r.1 w else if f = .C then r.2 else getFlag p f := by
  simp only [addFlags, getFlag_setNZ, getFlag_putFlag]

theorem getFlag_compareFlags (p : Byte) (a m : Word) (w : Width) (f : Flag) :
    getFlag (compareFlags p a m w) f =
      if f = .Z then decide ((a - m) &&& w.mask &&& w.mask = 0) else if f = .N then topBit ((a - m) &&& w.mask) w
      else if f = .C then decide (m.toNat ≤ a.toNat) else getFlag p f := by
  simp only [compareFlags, getFlag_setNZ, getFlag_putFlag]

theorem getFlag_testZ (p : Byte) (a m : Word) (f : Flag) :
    getFlag (testZ p a m) f = if f = .Z then decide (a &&& m = 0) else getFlag p f := by
  simp only [testZ, getFlag_putFlag]

theorem getFlag_bitFlags (p : Byte) (a m : Word) (w : Width) (f : Flag) :
    getFlag (bitFlags p a m w) f =
      if f = .V then m.getLsbD (w.bits - 2) else if f = .N then m.getLsbD (w.bits - 1)
      else if f = .Z then decide (a &&& m = 0) else getFlag p f := by
  simp only [bitFlags, getFlag_putFlag, getFlag_testZ]

/-- The flags `SetP` leaves (R29). -/
theorem getFlag_forceWidths (e : Bool) (p : Byte) (f : Flag) :
    getFlag (forceWidths e p) f = (getFlag p f || (e && (f == .M || f == .X))) := by
  cases e
  · simp [forceWidths]
  · cases f <;> simp [forceWidths]

/-- The flags at a handler's entry (60_exceptions.md R388). -/
theorem getFlag_handlerStatus (p : Byte) (f : Flag) :
    getFlag (handlerStatus p) f = if f = .D then false else if f = .I then true else getFlag p f := by
  simp only [handlerStatus, getFlag_putFlag]

theorem toNat_and_mask (v : Word) (w : Width) : (v &&& w.mask).toNat = v.toNat % 2 ^ w.bits := by
  cases w
  · exact toNat_and_mask8 v
  · simp only [Width.mask, Width.bits, BitVec.toNat_and]
    exact Nat.and_two_pow_sub_one_eq_mod v.toNat 16

/-- A value of a width: its bits above the width are zero. -/
def Fits (v : Word) (w : Width) : Prop :=
  v.toNat < 2 ^ w.bits

theorem fits_mask (v : Word) (w : Width) : Fits (v &&& w.mask) w := by
  rw [Fits, toNat_and_mask]
  exact Nat.mod_lt _ (Nat.two_pow_pos _)

theorem fits_byte (b : Byte) (w : Width) : Fits (b.zeroExtend 16) w := by
  have := b.isLt
  cases w <;> simp [Fits, Width.bits] <;> omega

theorem fits_word (v : Word) : Fits v .w16 :=
  v.isLt

theorem mask_of_fits (v : Word) (w : Width) (h : Fits v w) : v &&& w.mask = v := by
  apply BitVec.eq_of_toNat_eq
  rw [toNat_and_mask, Nat.mod_eq_of_lt h]

theorem topBit_eq (v : Word) (w : Width) (h : Fits v w) : topBit v w = decide (2 ^ (w.bits - 1) ≤ v.toNat) := by
  have hv := v.isLt
  rw [topBit, BitVec.getLsbD, Nat.testBit_eq_decide_div_mod_eq, decide_eq_decide]
  cases w <;> simp only [Fits, Width.bits] at h ⊢ <;> omega

theorem zero_iff_fits (v : Word) (w : Width) (h : Fits v w) : (v &&& w.mask = 0) ↔ v.toNat = 0 := by
  rw [mask_of_fits v w h]
  constructor
  · intro e; rw [e]; rfl
  · intro e; exact BitVec.eq_of_toNat_eq e

/-- The value at width `w` of the accumulator after `WriteA` (R22). -/
theorem mergeA_value (a v : Word) (w : Width) (h : Fits v w) : mergeA a v w &&& w.mask = v := by
  cases w
  · apply BitVec.eq_of_toNat_eq
    simp only [Fits, Width.bits] at h
    rw [toNat_and_mask]
    simp only [mergeA, toNat_mkWord, toNat_lo8, Width.bits]
    omega
  · exact mask_of_fits v .w16 h

@[simp] theorem hi8_mergeA_w8 (a v : Word) : hi8 (mergeA a v .w8) = hi8 a := by
  simp [mergeA]

theorem hi8_indexValue_w8 (v : Word) : hi8 (indexValue v .w8) = 0 := by
  simp [indexValue]

/-- A value that fits the index width is written as it is (R23). -/
theorem indexValue_of_fits (v : Word) (w : Width) (h : Fits v w) : indexValue v w = v := by
  cases w
  · apply BitVec.eq_of_toNat_eq
    simp only [Fits, Width.bits] at h
    simp only [indexValue, BitVec.toNat_setWidth, toNat_lo8]
    omega
  · rfl

@[simp] theorem clipIndex_of_clear (p : Byte) (v : Word) (h : getFlag p .X = false) : clipIndex p v = v := by
  simp [clipIndex, h]

theorem hi8_clipIndex (p : Byte) (v : Word) (h : getFlag p .X = true) : hi8 (clipIndex p v) = 0 := by
  simp [clipIndex, h]

@[simp] theorem pinStack_native (v : Word) : pinStack false v = v := rfl
@[simp] theorem hi8_pinStack (v : Word) : hi8 (pinStack true v) = 0x01#8 := by simp [pinStack]
@[simp] theorem hi8_stackDown (sp : Word) : hi8 (stackDown true sp) = 0x01#8 := by simp [stackDown]
@[simp] theorem hi8_stackUp (sp : Word) : hi8 (stackUp true sp) = 0x01#8 := by simp [stackUp]

/-- A pull undoes the stack pointer's move of a push, where `SP` is legal for the mode (10_state.md R24). -/
theorem stackUp_stackDown (e : Bool) (sp : Word) (h : e = true → hi8 sp = 0x01#8) : stackUp e (stackDown e sp) = sp := by
  cases e
  · simp [stackUp, stackDown]
  · have h1 := h rfl
    simp only [stackUp, stackDown, if_true, lo8_mkWord, BitVec.sub_add_cancel]
    rw [← h1, mkWord_hi8_lo8]

end Machine

end Sys2Proof
end

