-- ==== Sys2Proof/Laws/Memory.lean ====
section
/-! SUPPORT. The laws of memory: a read after a write, the canonical form kept, and equal contents being equal lists. -/

namespace Sys2Proof.Machine

theorem Memory.read_cons (a : Nat) (v : Byte) (m : Memory) (b : Nat) (h : v = Memory.unlisted → Memory.read m a = Memory.unlisted) :
    Memory.read (Memory.cons a v m) b = if b = a then v else Memory.read m b := by
  unfold Memory.cons
  split
  · next hv =>
    split
    · next hb => rw [hb, h hv, hv]
    · rfl
  · simp only [Memory.read, eq_comm]

/-- A write leaves every other address alone, in every list of cells. -/
theorem Memory.read_write_ne (m : Memory) (a : Nat) (v : Byte) (b : Nat) (h : b ≠ a) :
    Memory.read (Memory.write m a v) b = Memory.read m b := by
  induction m with
  | nil =>
    unfold Memory.write Memory.cons
    split
    · rfl
    · simp [Memory.read, h.symm]
  | cons c rest ih =>
    obtain ⟨k, u⟩ := c
    simp only [Memory.write, Memory.cons]
    split_ifs with h1 h2 h3 h4
    · rfl
    · simp [Memory.read, h.symm]
    · subst h3; simp [Memory.read, h.symm]
    · subst h3; simp [Memory.read, h.symm]
    · simp [Memory.read, ih]

/-- Below its lower bound a canonical list holds nothing. -/
theorem Memory.read_of_lt (m : Memory) (lo a : Nat) (hm : Memory.wfFrom lo m = true) (h : a < lo) :
    Memory.read m a = Memory.unlisted := by
  induction m generalizing lo with
  | nil => rfl
  | cons c rest ih =>
    obtain ⟨k, u⟩ := c
    simp only [Memory.wfFrom, Bool.and_eq_true, decide_eq_true_eq] at hm
    have hk : k ≠ a := by omega
    simp only [Memory.read, hk, if_false]
    exact ih (k + 1) hm.2 (by omega)

/-- Reading what was just written. -/
theorem Memory.read_write_same_from (m : Memory) (lo a : Nat) (v : Byte) (hm : Memory.wfFrom lo m = true) :
    Memory.read (Memory.write m a v) a = v := by
  induction m generalizing lo with
  | nil =>
    unfold Memory.write Memory.cons
    split
    · next h => simp [Memory.read, h]
    · simp [Memory.read]
  | cons c rest ih =>
    obtain ⟨k, u⟩ := c
    have hw := hm
    simp only [Memory.wfFrom, Bool.and_eq_true, decide_eq_true_eq] at hm
    simp only [Memory.write, Memory.cons]
    split_ifs with h1 h2 h3 h4
    · have hk : k ≠ a := by omega
      simp only [Memory.read, hk, if_false, h2]
      exact Memory.read_of_lt rest (k + 1) a hm.2 (by omega)
    · simp [Memory.read]
    · rw [h4]; exact Memory.read_of_lt rest (k + 1) a hm.2 (by omega)
    · simp [Memory.read]
    · have hk : k ≠ a := fun h => h3 h.symm
      simp only [Memory.read, hk, if_false]
      exact ih (k + 1) hm.2

/-- A read after a write, in canonical memory. -/
theorem Memory.read_write (m : Memory) (a : Nat) (v : Byte) (b : Nat) (hm : m.wf = true) :
    Memory.read (Memory.write m a v) b = if b = a then v else Memory.read m b := by
  split
  · next h => rw [h]; exact Memory.read_write_same_from m 0 a v hm
  · next h => exact Memory.read_write_ne m a v b h

theorem Memory.wfFrom_mono (m : Memory) (lo hi : Nat) (h : lo ≤ hi) (hm : Memory.wfFrom hi m = true) :
    Memory.wfFrom lo m = true := by
  cases m with
  | nil => rfl
  | cons c rest =>
    simp only [Memory.wfFrom, Bool.and_eq_true, decide_eq_true_eq] at hm ⊢
    exact ⟨⟨⟨by omega, hm.1.1.2⟩, hm.1.2⟩, hm.2⟩

theorem Memory.wfFrom_cons (m : Memory) (lo a : Nat) (v : Byte) (hlo : lo ≤ a) (ha : a < 2 ^ 24)
    (hm : Memory.wfFrom (a + 1) m = true) : Memory.wfFrom lo (Memory.cons a v m) = true := by
  unfold Memory.cons
  split
  · exact Memory.wfFrom_mono m lo (a + 1) (by omega) hm
  · next h =>
    simp only [Memory.wfFrom, Bool.and_eq_true, decide_eq_true_eq]
    exact ⟨⟨⟨hlo, ha⟩, h⟩, hm⟩

theorem Memory.write_wfFrom (m : Memory) (lo a : Nat) (v : Byte) (hlo : lo ≤ a) (ha : a < 2 ^ 24)
    (hm : Memory.wfFrom lo m = true) : Memory.wfFrom lo (Memory.write m a v) = true := by
  induction m generalizing lo with
  | nil => exact Memory.wfFrom_cons [] lo a v hlo ha rfl
  | cons c rest ih =>
    obtain ⟨k, u⟩ := c
    have hw := hm
    simp only [Memory.wfFrom, Bool.and_eq_true, decide_eq_true_eq] at hm
    simp only [Memory.write]
    split_ifs with h1 h2
    · apply Memory.wfFrom_cons _ _ _ _ hlo ha
      simp only [Memory.wfFrom, Bool.and_eq_true, decide_eq_true_eq]
      exact ⟨⟨⟨by omega, hm.1.1.2⟩, hm.1.2⟩, hm.2⟩
    · exact Memory.wfFrom_cons rest lo a v hlo ha (by rw [h2]; exact hm.2)
    · simp only [Memory.wfFrom, Bool.and_eq_true, decide_eq_true_eq]
      exact ⟨hm.1, ih (k + 1) (by omega) hm.2⟩

/-- A write keeps the canonical form. -/
theorem Memory.write_wf (m : Memory) (a : Addr) (v : Byte) (hm : m.wf = true) : (Memory.write m a.toNat v).wf = true :=
  Memory.write_wfFrom m 0 a.toNat v (Nat.zero_le _) a.isLt hm

theorem Memory.ext_from (m m' : Memory) (lo : Nat) (hm : Memory.wfFrom lo m = true) (hm' : Memory.wfFrom lo m' = true)
    (h : ∀ a, Memory.read m a = Memory.read m' a) : m = m' := by
  induction m generalizing lo m' with
  | nil =>
    cases m' with
    | nil => rfl
    | cons c rest =>
      obtain ⟨k, u⟩ := c
      simp only [Memory.wfFrom, Bool.and_eq_true, decide_eq_true_eq] at hm'
      have := h k
      simp only [Memory.read, if_true] at this
      exact absurd this.symm hm'.1.2
  | cons c rest ih =>
    obtain ⟨k, u⟩ := c
    have hw := hm
    simp only [Memory.wfFrom, Bool.and_eq_true, decide_eq_true_eq] at hm
    cases m' with
    | nil =>
      have := h k
      simp only [Memory.read, if_true] at this
      exact absurd this hm.1.2
    | cons c' rest' =>
      obtain ⟨k', u'⟩ := c'
      have hw' := hm'
      simp only [Memory.wfFrom, Bool.and_eq_true, decide_eq_true_eq] at hm'
      have hkk : k = k' := by
        rcases Nat.lt_trichotomy k k' with hlt | heq | hgt
        · have h1 := h k
          have h2 : k' ≠ k := by omega
          simp only [Memory.read, if_true, h2, if_false] at h1
          rw [Memory.read_of_lt rest' (k' + 1) k hm'.2 (by omega)] at h1
          exact absurd h1 hm.1.2
        · exact heq
        · have h1 := h k'
          have h2 : k ≠ k' := by omega
          simp only [Memory.read, if_true, h2, if_false] at h1
          rw [Memory.read_of_lt rest (k + 1) k' hm.2 (by omega)] at h1
          exact absurd h1.symm hm'.1.2
      subst hkk
      have hu : u = u' := by
        have := h k
        simpa only [Memory.read, if_true] using this
      subst hu
      rw [ih rest' (k + 1) hm.2 hm'.2]
      intro a
      by_cases ha : k = a
      · subst ha
        rw [Memory.read_of_lt rest (k + 1) k hm.2 (by omega), Memory.read_of_lt rest' (k + 1) k hm'.2 (by omega)]
      · have := h a
        simpa only [Memory.read, ha, if_false] using this

/-- Canonical memories with the same contents are equal. -/
theorem Memory.ext_wf (m m' : Memory) (hm : m.wf = true) (hm' : m'.wf = true)
    (h : ∀ a, Memory.read m a = Memory.read m' a) : m = m' :=
  Memory.ext_from m m' 0 hm hm' h

end Sys2Proof.Machine
end

