-- ==== Sys2Proof/Laws/State.lean ====
section
/-! SUPPORT. What each named update of State does to each field, true by definition: later proofs cite these and unfold no
record update. -/

namespace Sys2Proof.Machine

@[simp] theorem State.readByte_value (s : State) (a : Addr) : (s.readByte a).1 = s.answer a := rfl
@[simp] theorem State.read8_value (s : State) (ea : EffAddr) : (s.read8 ea).1 = s.answer ea.addr := rfl

@[simp] theorem State.readByte_A (s : State) (a : Addr) : ((s.readByte a).2).A = s.A := rfl
@[simp] theorem State.readByte_X (s : State) (a : Addr) : ((s.readByte a).2).X = s.X := rfl
@[simp] theorem State.readByte_Y (s : State) (a : Addr) : ((s.readByte a).2).Y = s.Y := rfl
@[simp] theorem State.readByte_SP (s : State) (a : Addr) : ((s.readByte a).2).SP = s.SP := rfl
@[simp] theorem State.readByte_PC (s : State) (a : Addr) : ((s.readByte a).2).PC = s.PC := rfl
@[simp] theorem State.readByte_PBR (s : State) (a : Addr) : ((s.readByte a).2).PBR = s.PBR := rfl
@[simp] theorem State.readByte_DBR (s : State) (a : Addr) : ((s.readByte a).2).DBR = s.DBR := rfl
@[simp] theorem State.readByte_D (s : State) (a : Addr) : ((s.readByte a).2).D = s.D := rfl
@[simp] theorem State.readByte_P (s : State) (a : Addr) : ((s.readByte a).2).P = s.P := rfl
@[simp] theorem State.readByte_E (s : State) (a : Addr) : ((s.readByte a).2).E = s.E := rfl
@[simp] theorem State.readByte_waiting (s : State) (a : Addr) : ((s.readByte a).2).waiting = s.waiting := rfl
@[simp] theorem State.readByte_stopped (s : State) (a : Addr) : ((s.readByte a).2).stopped = s.stopped := rfl
@[simp] theorem State.readByte_mv (s : State) (a : Addr) : ((s.readByte a).2).mv = s.mv := rfl
@[simp] theorem State.readByte_nmiPending (s : State) (a : Addr) : ((s.readByte a).2).nmiPending = s.nmiPending := rfl
@[simp] theorem State.readByte_irqPending (s : State) (a : Addr) : ((s.readByte a).2).irqPending = s.irqPending := rfl
@[simp] theorem State.readByte_mem (s : State) (a : Addr) : ((s.readByte a).2).mem = s.mem := rfl
@[simp] theorem State.readByte_script (s : State) (a : Addr) : ((s.readByte a).2).script = s.script.tail := rfl
@[simp] theorem State.readByte_trace (s : State) (a : Addr) : ((s.readByte a).2).trace = .read a (s.answer a) :: s.trace := rfl

@[simp] theorem State.read8_A (s : State) (ea : EffAddr) : ((s.read8 ea).2).A = s.A := rfl
@[simp] theorem State.read8_X (s : State) (ea : EffAddr) : ((s.read8 ea).2).X = s.X := rfl
@[simp] theorem State.read8_Y (s : State) (ea : EffAddr) : ((s.read8 ea).2).Y = s.Y := rfl
@[simp] theorem State.read8_SP (s : State) (ea : EffAddr) : ((s.read8 ea).2).SP = s.SP := rfl
@[simp] theorem State.read8_PC (s : State) (ea : EffAddr) : ((s.read8 ea).2).PC = s.PC := rfl
@[simp] theorem State.read8_PBR (s : State) (ea : EffAddr) : ((s.read8 ea).2).PBR = s.PBR := rfl
@[simp] theorem State.read8_DBR (s : State) (ea : EffAddr) : ((s.read8 ea).2).DBR = s.DBR := rfl
@[simp] theorem State.read8_D (s : State) (ea : EffAddr) : ((s.read8 ea).2).D = s.D := rfl
@[simp] theorem State.read8_P (s : State) (ea : EffAddr) : ((s.read8 ea).2).P = s.P := rfl
@[simp] theorem State.read8_E (s : State) (ea : EffAddr) : ((s.read8 ea).2).E = s.E := rfl
@[simp] theorem State.read8_waiting (s : State) (ea : EffAddr) : ((s.read8 ea).2).waiting = s.waiting := rfl
@[simp] theorem State.read8_stopped (s : State) (ea : EffAddr) : ((s.read8 ea).2).stopped = s.stopped := rfl
@[simp] theorem State.read8_mv (s : State) (ea : EffAddr) : ((s.read8 ea).2).mv = s.mv := rfl
@[simp] theorem State.read8_nmiPending (s : State) (ea : EffAddr) : ((s.read8 ea).2).nmiPending = s.nmiPending := rfl
@[simp] theorem State.read8_irqPending (s : State) (ea : EffAddr) : ((s.read8 ea).2).irqPending = s.irqPending := rfl
@[simp] theorem State.read8_mem (s : State) (ea : EffAddr) : ((s.read8 ea).2).mem = s.mem := rfl
@[simp] theorem State.read8_script (s : State) (ea : EffAddr) : ((s.read8 ea).2).script = s.script.tail := rfl
@[simp] theorem State.read8_trace (s : State) (ea : EffAddr) : ((s.read8 ea).2).trace = .read ea.addr (s.answer ea.addr) :: s.trace := rfl

@[simp] theorem State.writeByte_A (s : State) (a : Addr) (v : Byte) : (s.writeByte a v).A = s.A := rfl
@[simp] theorem State.writeByte_X (s : State) (a : Addr) (v : Byte) : (s.writeByte a v).X = s.X := rfl
@[simp] theorem State.writeByte_Y (s : State) (a : Addr) (v : Byte) : (s.writeByte a v).Y = s.Y := rfl
@[simp] theorem State.writeByte_SP (s : State) (a : Addr) (v : Byte) : (s.writeByte a v).SP = s.SP := rfl
@[simp] theorem State.writeByte_PC (s : State) (a : Addr) (v : Byte) : (s.writeByte a v).PC = s.PC := rfl
@[simp] theorem State.writeByte_PBR (s : State) (a : Addr) (v : Byte) : (s.writeByte a v).PBR = s.PBR := rfl
@[simp] theorem State.writeByte_DBR (s : State) (a : Addr) (v : Byte) : (s.writeByte a v).DBR = s.DBR := rfl
@[simp] theorem State.writeByte_D (s : State) (a : Addr) (v : Byte) : (s.writeByte a v).D = s.D := rfl
@[simp] theorem State.writeByte_P (s : State) (a : Addr) (v : Byte) : (s.writeByte a v).P = s.P := rfl
@[simp] theorem State.writeByte_E (s : State) (a : Addr) (v : Byte) : (s.writeByte a v).E = s.E := rfl
@[simp] theorem State.writeByte_waiting (s : State) (a : Addr) (v : Byte) : (s.writeByte a v).waiting = s.waiting := rfl
@[simp] theorem State.writeByte_stopped (s : State) (a : Addr) (v : Byte) : (s.writeByte a v).stopped = s.stopped := rfl
@[simp] theorem State.writeByte_mv (s : State) (a : Addr) (v : Byte) : (s.writeByte a v).mv = s.mv := rfl
@[simp] theorem State.writeByte_nmiPending (s : State) (a : Addr) (v : Byte) : (s.writeByte a v).nmiPending = s.nmiPending := rfl
@[simp] theorem State.writeByte_irqPending (s : State) (a : Addr) (v : Byte) : (s.writeByte a v).irqPending = s.irqPending := rfl
@[simp] theorem State.writeByte_mem (s : State) (a : Addr) (v : Byte) : (s.writeByte a v).mem = Memory.write s.mem a.toNat v := rfl
@[simp] theorem State.writeByte_script (s : State) (a : Addr) (v : Byte) : (s.writeByte a v).script = s.script := rfl
@[simp] theorem State.writeByte_trace (s : State) (a : Addr) (v : Byte) : (s.writeByte a v).trace = .write a v :: s.trace := rfl

@[simp] theorem State.write8_A (s : State) (ea : EffAddr) (v : Byte) : (s.write8 ea v).A = s.A := rfl
@[simp] theorem State.write8_X (s : State) (ea : EffAddr) (v : Byte) : (s.write8 ea v).X = s.X := rfl
@[simp] theorem State.write8_Y (s : State) (ea : EffAddr) (v : Byte) : (s.write8 ea v).Y = s.Y := rfl
@[simp] theorem State.write8_SP (s : State) (ea : EffAddr) (v : Byte) : (s.write8 ea v).SP = s.SP := rfl
@[simp] theorem State.write8_PC (s : State) (ea : EffAddr) (v : Byte) : (s.write8 ea v).PC = s.PC := rfl
@[simp] theorem State.write8_PBR (s : State) (ea : EffAddr) (v : Byte) : (s.write8 ea v).PBR = s.PBR := rfl
@[simp] theorem State.write8_DBR (s : State) (ea : EffAddr) (v : Byte) : (s.write8 ea v).DBR = s.DBR := rfl
@[simp] theorem State.write8_D (s : State) (ea : EffAddr) (v : Byte) : (s.write8 ea v).D = s.D := rfl
@[simp] theorem State.write8_P (s : State) (ea : EffAddr) (v : Byte) : (s.write8 ea v).P = s.P := rfl
@[simp] theorem State.write8_E (s : State) (ea : EffAddr) (v : Byte) : (s.write8 ea v).E = s.E := rfl
@[simp] theorem State.write8_waiting (s : State) (ea : EffAddr) (v : Byte) : (s.write8 ea v).waiting = s.waiting := rfl
@[simp] theorem State.write8_stopped (s : State) (ea : EffAddr) (v : Byte) : (s.write8 ea v).stopped = s.stopped := rfl
@[simp] theorem State.write8_mv (s : State) (ea : EffAddr) (v : Byte) : (s.write8 ea v).mv = s.mv := rfl
@[simp] theorem State.write8_nmiPending (s : State) (ea : EffAddr) (v : Byte) : (s.write8 ea v).nmiPending = s.nmiPending := rfl
@[simp] theorem State.write8_irqPending (s : State) (ea : EffAddr) (v : Byte) : (s.write8 ea v).irqPending = s.irqPending := rfl
@[simp] theorem State.write8_mem (s : State) (ea : EffAddr) (v : Byte) : (s.write8 ea v).mem = Memory.write s.mem ea.addr.toNat v := rfl
@[simp] theorem State.write8_script (s : State) (ea : EffAddr) (v : Byte) : (s.write8 ea v).script = s.script := rfl
@[simp] theorem State.write8_trace (s : State) (ea : EffAddr) (v : Byte) : (s.write8 ea v).trace = .write ea.addr v :: s.trace := rfl

@[simp] theorem State.withP_A (s : State) (p : Byte) : (s.withP p).A = s.A := rfl
@[simp] theorem State.withP_X (s : State) (p : Byte) : (s.withP p).X = s.X := rfl
@[simp] theorem State.withP_Y (s : State) (p : Byte) : (s.withP p).Y = s.Y := rfl
@[simp] theorem State.withP_SP (s : State) (p : Byte) : (s.withP p).SP = s.SP := rfl
@[simp] theorem State.withP_PC (s : State) (p : Byte) : (s.withP p).PC = s.PC := rfl
@[simp] theorem State.withP_PBR (s : State) (p : Byte) : (s.withP p).PBR = s.PBR := rfl
@[simp] theorem State.withP_DBR (s : State) (p : Byte) : (s.withP p).DBR = s.DBR := rfl
@[simp] theorem State.withP_D (s : State) (p : Byte) : (s.withP p).D = s.D := rfl
@[simp] theorem State.withP_P (s : State) (p : Byte) : (s.withP p).P = p := rfl
@[simp] theorem State.withP_E (s : State) (p : Byte) : (s.withP p).E = s.E := rfl
@[simp] theorem State.withP_waiting (s : State) (p : Byte) : (s.withP p).waiting = s.waiting := rfl
@[simp] theorem State.withP_stopped (s : State) (p : Byte) : (s.withP p).stopped = s.stopped := rfl
@[simp] theorem State.withP_mv (s : State) (p : Byte) : (s.withP p).mv = s.mv := rfl
@[simp] theorem State.withP_nmiPending (s : State) (p : Byte) : (s.withP p).nmiPending = s.nmiPending := rfl
@[simp] theorem State.withP_irqPending (s : State) (p : Byte) : (s.withP p).irqPending = s.irqPending := rfl
@[simp] theorem State.withP_mem (s : State) (p : Byte) : (s.withP p).mem = s.mem := rfl
@[simp] theorem State.withP_script (s : State) (p : Byte) : (s.withP p).script = s.script := rfl
@[simp] theorem State.withP_trace (s : State) (p : Byte) : (s.withP p).trace = s.trace := rfl

@[simp] theorem State.setNZ_A (s : State) (v : Word) (w : Width) : (s.setNZ v w).A = s.A := rfl
@[simp] theorem State.setNZ_X (s : State) (v : Word) (w : Width) : (s.setNZ v w).X = s.X := rfl
@[simp] theorem State.setNZ_Y (s : State) (v : Word) (w : Width) : (s.setNZ v w).Y = s.Y := rfl
@[simp] theorem State.setNZ_SP (s : State) (v : Word) (w : Width) : (s.setNZ v w).SP = s.SP := rfl
@[simp] theorem State.setNZ_PC (s : State) (v : Word) (w : Width) : (s.setNZ v w).PC = s.PC := rfl
@[simp] theorem State.setNZ_PBR (s : State) (v : Word) (w : Width) : (s.setNZ v w).PBR = s.PBR := rfl
@[simp] theorem State.setNZ_DBR (s : State) (v : Word) (w : Width) : (s.setNZ v w).DBR = s.DBR := rfl
@[simp] theorem State.setNZ_D (s : State) (v : Word) (w : Width) : (s.setNZ v w).D = s.D := rfl
@[simp] theorem State.setNZ_P (s : State) (v : Word) (w : Width) : (s.setNZ v w).P = Sys2Proof.Machine.setNZ s.P v w := rfl
@[simp] theorem State.setNZ_E (s : State) (v : Word) (w : Width) : (s.setNZ v w).E = s.E := rfl
@[simp] theorem State.setNZ_waiting (s : State) (v : Word) (w : Width) : (s.setNZ v w).waiting = s.waiting := rfl
@[simp] theorem State.setNZ_stopped (s : State) (v : Word) (w : Width) : (s.setNZ v w).stopped = s.stopped := rfl
@[simp] theorem State.setNZ_mv (s : State) (v : Word) (w : Width) : (s.setNZ v w).mv = s.mv := rfl
@[simp] theorem State.setNZ_nmiPending (s : State) (v : Word) (w : Width) : (s.setNZ v w).nmiPending = s.nmiPending := rfl
@[simp] theorem State.setNZ_irqPending (s : State) (v : Word) (w : Width) : (s.setNZ v w).irqPending = s.irqPending := rfl
@[simp] theorem State.setNZ_mem (s : State) (v : Word) (w : Width) : (s.setNZ v w).mem = s.mem := rfl
@[simp] theorem State.setNZ_script (s : State) (v : Word) (w : Width) : (s.setNZ v w).script = s.script := rfl
@[simp] theorem State.setNZ_trace (s : State) (v : Word) (w : Width) : (s.setNZ v w).trace = s.trace := rfl

@[simp] theorem State.writeA_A (s : State) (v : Word) (w : Width) : (s.writeA v w).A = mergeA s.A v w := rfl
@[simp] theorem State.writeA_X (s : State) (v : Word) (w : Width) : (s.writeA v w).X = s.X := rfl
@[simp] theorem State.writeA_Y (s : State) (v : Word) (w : Width) : (s.writeA v w).Y = s.Y := rfl
@[simp] theorem State.writeA_SP (s : State) (v : Word) (w : Width) : (s.writeA v w).SP = s.SP := rfl
@[simp] theorem State.writeA_PC (s : State) (v : Word) (w : Width) : (s.writeA v w).PC = s.PC := rfl
@[simp] theorem State.writeA_PBR (s : State) (v : Word) (w : Width) : (s.writeA v w).PBR = s.PBR := rfl
@[simp] theorem State.writeA_DBR (s : State) (v : Word) (w : Width) : (s.writeA v w).DBR = s.DBR := rfl
@[simp] theorem State.writeA_D (s : State) (v : Word) (w : Width) : (s.writeA v w).D = s.D := rfl
@[simp] theorem State.writeA_P (s : State) (v : Word) (w : Width) : (s.writeA v w).P = s.P := rfl
@[simp] theorem State.writeA_E (s : State) (v : Word) (w : Width) : (s.writeA v w).E = s.E := rfl
@[simp] theorem State.writeA_waiting (s : State) (v : Word) (w : Width) : (s.writeA v w).waiting = s.waiting := rfl
@[simp] theorem State.writeA_stopped (s : State) (v : Word) (w : Width) : (s.writeA v w).stopped = s.stopped := rfl
@[simp] theorem State.writeA_mv (s : State) (v : Word) (w : Width) : (s.writeA v w).mv = s.mv := rfl
@[simp] theorem State.writeA_nmiPending (s : State) (v : Word) (w : Width) : (s.writeA v w).nmiPending = s.nmiPending := rfl
@[simp] theorem State.writeA_irqPending (s : State) (v : Word) (w : Width) : (s.writeA v w).irqPending = s.irqPending := rfl
@[simp] theorem State.writeA_mem (s : State) (v : Word) (w : Width) : (s.writeA v w).mem = s.mem := rfl
@[simp] theorem State.writeA_script (s : State) (v : Word) (w : Width) : (s.writeA v w).script = s.script := rfl
@[simp] theorem State.writeA_trace (s : State) (v : Word) (w : Width) : (s.writeA v w).trace = s.trace := rfl

@[simp] theorem State.writeX_A (s : State) (v : Word) (w : Width) : (s.writeX v w).A = s.A := rfl
@[simp] theorem State.writeX_X (s : State) (v : Word) (w : Width) : (s.writeX v w).X = indexValue v w := rfl
@[simp] theorem State.writeX_Y (s : State) (v : Word) (w : Width) : (s.writeX v w).Y = s.Y := rfl
@[simp] theorem State.writeX_SP (s : State) (v : Word) (w : Width) : (s.writeX v w).SP = s.SP := rfl
@[simp] theorem State.writeX_PC (s : State) (v : Word) (w : Width) : (s.writeX v w).PC = s.PC := rfl
@[simp] theorem State.writeX_PBR (s : State) (v : Word) (w : Width) : (s.writeX v w).PBR = s.PBR := rfl
@[simp] theorem State.writeX_DBR (s : State) (v : Word) (w : Width) : (s.writeX v w).DBR = s.DBR := rfl
@[simp] theorem State.writeX_D (s : State) (v : Word) (w : Width) : (s.writeX v w).D = s.D := rfl
@[simp] theorem State.writeX_P (s : State) (v : Word) (w : Width) : (s.writeX v w).P = s.P := rfl
@[simp] theorem State.writeX_E (s : State) (v : Word) (w : Width) : (s.writeX v w).E = s.E := rfl
@[simp] theorem State.writeX_waiting (s : State) (v : Word) (w : Width) : (s.writeX v w).waiting = s.waiting := rfl
@[simp] theorem State.writeX_stopped (s : State) (v : Word) (w : Width) : (s.writeX v w).stopped = s.stopped := rfl
@[simp] theorem State.writeX_mv (s : State) (v : Word) (w : Width) : (s.writeX v w).mv = s.mv := rfl
@[simp] theorem State.writeX_nmiPending (s : State) (v : Word) (w : Width) : (s.writeX v w).nmiPending = s.nmiPending := rfl
@[simp] theorem State.writeX_irqPending (s : State) (v : Word) (w : Width) : (s.writeX v w).irqPending = s.irqPending := rfl
@[simp] theorem State.writeX_mem (s : State) (v : Word) (w : Width) : (s.writeX v w).mem = s.mem := rfl
@[simp] theorem State.writeX_script (s : State) (v : Word) (w : Width) : (s.writeX v w).script = s.script := rfl
@[simp] theorem State.writeX_trace (s : State) (v : Word) (w : Width) : (s.writeX v w).trace = s.trace := rfl

@[simp] theorem State.writeY_A (s : State) (v : Word) (w : Width) : (s.writeY v w).A = s.A := rfl
@[simp] theorem State.writeY_X (s : State) (v : Word) (w : Width) : (s.writeY v w).X = s.X := rfl
@[simp] theorem State.writeY_Y (s : State) (v : Word) (w : Width) : (s.writeY v w).Y = indexValue v w := rfl
@[simp] theorem State.writeY_SP (s : State) (v : Word) (w : Width) : (s.writeY v w).SP = s.SP := rfl
@[simp] theorem State.writeY_PC (s : State) (v : Word) (w : Width) : (s.writeY v w).PC = s.PC := rfl
@[simp] theorem State.writeY_PBR (s : State) (v : Word) (w : Width) : (s.writeY v w).PBR = s.PBR := rfl
@[simp] theorem State.writeY_DBR (s : State) (v : Word) (w : Width) : (s.writeY v w).DBR = s.DBR := rfl
@[simp] theorem State.writeY_D (s : State) (v : Word) (w : Width) : (s.writeY v w).D = s.D := rfl
@[simp] theorem State.writeY_P (s : State) (v : Word) (w : Width) : (s.writeY v w).P = s.P := rfl
@[simp] theorem State.writeY_E (s : State) (v : Word) (w : Width) : (s.writeY v w).E = s.E := rfl
@[simp] theorem State.writeY_waiting (s : State) (v : Word) (w : Width) : (s.writeY v w).waiting = s.waiting := rfl
@[simp] theorem State.writeY_stopped (s : State) (v : Word) (w : Width) : (s.writeY v w).stopped = s.stopped := rfl
@[simp] theorem State.writeY_mv (s : State) (v : Word) (w : Width) : (s.writeY v w).mv = s.mv := rfl
@[simp] theorem State.writeY_nmiPending (s : State) (v : Word) (w : Width) : (s.writeY v w).nmiPending = s.nmiPending := rfl
@[simp] theorem State.writeY_irqPending (s : State) (v : Word) (w : Width) : (s.writeY v w).irqPending = s.irqPending := rfl
@[simp] theorem State.writeY_mem (s : State) (v : Word) (w : Width) : (s.writeY v w).mem = s.mem := rfl
@[simp] theorem State.writeY_script (s : State) (v : Word) (w : Width) : (s.writeY v w).script = s.script := rfl
@[simp] theorem State.writeY_trace (s : State) (v : Word) (w : Width) : (s.writeY v w).trace = s.trace := rfl

@[simp] theorem State.setP_A (s : State) (v : Byte) : (s.setP v).A = s.A := rfl
@[simp] theorem State.setP_X (s : State) (v : Byte) : (s.setP v).X = clipIndex (forceWidths s.E v) s.X := rfl
@[simp] theorem State.setP_Y (s : State) (v : Byte) : (s.setP v).Y = clipIndex (forceWidths s.E v) s.Y := rfl
@[simp] theorem State.setP_SP (s : State) (v : Byte) : (s.setP v).SP = s.SP := rfl
@[simp] theorem State.setP_PC (s : State) (v : Byte) : (s.setP v).PC = s.PC := rfl
@[simp] theorem State.setP_PBR (s : State) (v : Byte) : (s.setP v).PBR = s.PBR := rfl
@[simp] theorem State.setP_DBR (s : State) (v : Byte) : (s.setP v).DBR = s.DBR := rfl
@[simp] theorem State.setP_D (s : State) (v : Byte) : (s.setP v).D = s.D := rfl
@[simp] theorem State.setP_P (s : State) (v : Byte) : (s.setP v).P = forceWidths s.E v := rfl
@[simp] theorem State.setP_E (s : State) (v : Byte) : (s.setP v).E = s.E := rfl
@[simp] theorem State.setP_waiting (s : State) (v : Byte) : (s.setP v).waiting = s.waiting := rfl
@[simp] theorem State.setP_stopped (s : State) (v : Byte) : (s.setP v).stopped = s.stopped := rfl
@[simp] theorem State.setP_mv (s : State) (v : Byte) : (s.setP v).mv = s.mv := rfl
@[simp] theorem State.setP_nmiPending (s : State) (v : Byte) : (s.setP v).nmiPending = s.nmiPending := rfl
@[simp] theorem State.setP_irqPending (s : State) (v : Byte) : (s.setP v).irqPending = s.irqPending := rfl
@[simp] theorem State.setP_mem (s : State) (v : Byte) : (s.setP v).mem = s.mem := rfl
@[simp] theorem State.setP_script (s : State) (v : Byte) : (s.setP v).script = s.script := rfl
@[simp] theorem State.setP_trace (s : State) (v : Byte) : (s.setP v).trace = s.trace := rfl

@[simp] theorem State.push8_A (s : State) (v : Byte) : (s.push8 v).A = s.A := rfl
@[simp] theorem State.push8_X (s : State) (v : Byte) : (s.push8 v).X = s.X := rfl
@[simp] theorem State.push8_Y (s : State) (v : Byte) : (s.push8 v).Y = s.Y := rfl
@[simp] theorem State.push8_SP (s : State) (v : Byte) : (s.push8 v).SP = stackDown s.E s.SP := rfl
@[simp] theorem State.push8_PC (s : State) (v : Byte) : (s.push8 v).PC = s.PC := rfl
@[simp] theorem State.push8_PBR (s : State) (v : Byte) : (s.push8 v).PBR = s.PBR := rfl
@[simp] theorem State.push8_DBR (s : State) (v : Byte) : (s.push8 v).DBR = s.DBR := rfl
@[simp] theorem State.push8_D (s : State) (v : Byte) : (s.push8 v).D = s.D := rfl
@[simp] theorem State.push8_P (s : State) (v : Byte) : (s.push8 v).P = s.P := rfl
@[simp] theorem State.push8_E (s : State) (v : Byte) : (s.push8 v).E = s.E := rfl
@[simp] theorem State.push8_waiting (s : State) (v : Byte) : (s.push8 v).waiting = s.waiting := rfl
@[simp] theorem State.push8_stopped (s : State) (v : Byte) : (s.push8 v).stopped = s.stopped := rfl
@[simp] theorem State.push8_mv (s : State) (v : Byte) : (s.push8 v).mv = s.mv := rfl
@[simp] theorem State.push8_nmiPending (s : State) (v : Byte) : (s.push8 v).nmiPending = s.nmiPending := rfl
@[simp] theorem State.push8_irqPending (s : State) (v : Byte) : (s.push8 v).irqPending = s.irqPending := rfl
@[simp] theorem State.push8_mem (s : State) (v : Byte) : (s.push8 v).mem = Memory.write s.mem (mkAddr 0 s.SP).toNat v := rfl
@[simp] theorem State.push8_script (s : State) (v : Byte) : (s.push8 v).script = s.script := rfl
@[simp] theorem State.push8_trace (s : State) (v : Byte) : (s.push8 v).trace = .write (mkAddr 0 s.SP) v :: s.trace := rfl

@[simp] theorem State.pull8_A (s : State) : (s.pull8.2).A = s.A := rfl
@[simp] theorem State.pull8_X (s : State) : (s.pull8.2).X = s.X := rfl
@[simp] theorem State.pull8_Y (s : State) : (s.pull8.2).Y = s.Y := rfl
@[simp] theorem State.pull8_SP (s : State) : (s.pull8.2).SP = stackUp s.E s.SP := rfl
@[simp] theorem State.pull8_PC (s : State) : (s.pull8.2).PC = s.PC := rfl
@[simp] theorem State.pull8_PBR (s : State) : (s.pull8.2).PBR = s.PBR := rfl
@[simp] theorem State.pull8_DBR (s : State) : (s.pull8.2).DBR = s.DBR := rfl
@[simp] theorem State.pull8_D (s : State) : (s.pull8.2).D = s.D := rfl
@[simp] theorem State.pull8_P (s : State) : (s.pull8.2).P = s.P := rfl
@[simp] theorem State.pull8_E (s : State) : (s.pull8.2).E = s.E := rfl
@[simp] theorem State.pull8_waiting (s : State) : (s.pull8.2).waiting = s.waiting := rfl
@[simp] theorem State.pull8_stopped (s : State) : (s.pull8.2).stopped = s.stopped := rfl
@[simp] theorem State.pull8_mv (s : State) : (s.pull8.2).mv = s.mv := rfl
@[simp] theorem State.pull8_nmiPending (s : State) : (s.pull8.2).nmiPending = s.nmiPending := rfl
@[simp] theorem State.pull8_irqPending (s : State) : (s.pull8.2).irqPending = s.irqPending := rfl
@[simp] theorem State.pull8_mem (s : State) : (s.pull8.2).mem = s.mem := rfl
@[simp] theorem State.pull8_script (s : State) : (s.pull8.2).script = s.script.tail := rfl
@[simp] theorem State.pull8_trace (s : State) : (s.pull8.2).trace = .read (mkAddr 0 (stackUp s.E s.SP)) s.pull8.1 :: s.trace := rfl

end Sys2Proof.Machine
end

