-- ==== Sys2Proof/Laws/Ops.lean ====
section
/-! SUPPORT. The laws of the shared operations: what each leaves alone, field by field and as a whole, and what memory
holds after it. -/

namespace Sys2Proof.Machine

/-! ## Fields the shared operations leave alone -/

@[simp] theorem State.read16_A (s : State) (ea : EffAddr) : ((s.read16 ea).2).A = s.A := rfl
@[simp] theorem State.read16_X (s : State) (ea : EffAddr) : ((s.read16 ea).2).X = s.X := rfl
@[simp] theorem State.read16_Y (s : State) (ea : EffAddr) : ((s.read16 ea).2).Y = s.Y := rfl
@[simp] theorem State.read16_SP (s : State) (ea : EffAddr) : ((s.read16 ea).2).SP = s.SP := rfl
@[simp] theorem State.read16_PC (s : State) (ea : EffAddr) : ((s.read16 ea).2).PC = s.PC := rfl
@[simp] theorem State.read16_PBR (s : State) (ea : EffAddr) : ((s.read16 ea).2).PBR = s.PBR := rfl
@[simp] theorem State.read16_DBR (s : State) (ea : EffAddr) : ((s.read16 ea).2).DBR = s.DBR := rfl
@[simp] theorem State.read16_D (s : State) (ea : EffAddr) : ((s.read16 ea).2).D = s.D := rfl
@[simp] theorem State.read16_P (s : State) (ea : EffAddr) : ((s.read16 ea).2).P = s.P := rfl
@[simp] theorem State.read16_E (s : State) (ea : EffAddr) : ((s.read16 ea).2).E = s.E := rfl
@[simp] theorem State.read16_waiting (s : State) (ea : EffAddr) : ((s.read16 ea).2).waiting = s.waiting := rfl
@[simp] theorem State.read16_stopped (s : State) (ea : EffAddr) : ((s.read16 ea).2).stopped = s.stopped := rfl
@[simp] theorem State.read16_mv (s : State) (ea : EffAddr) : ((s.read16 ea).2).mv = s.mv := rfl
@[simp] theorem State.read16_nmiPending (s : State) (ea : EffAddr) : ((s.read16 ea).2).nmiPending = s.nmiPending := rfl
@[simp] theorem State.read16_irqPending (s : State) (ea : EffAddr) : ((s.read16 ea).2).irqPending = s.irqPending := rfl
@[simp] theorem State.read16_mem (s : State) (ea : EffAddr) : ((s.read16 ea).2).mem = s.mem := rfl

@[simp] theorem State.read24_A (s : State) (ea : EffAddr) : ((s.read24 ea).2).A = s.A := rfl
@[simp] theorem State.read24_X (s : State) (ea : EffAddr) : ((s.read24 ea).2).X = s.X := rfl
@[simp] theorem State.read24_Y (s : State) (ea : EffAddr) : ((s.read24 ea).2).Y = s.Y := rfl
@[simp] theorem State.read24_SP (s : State) (ea : EffAddr) : ((s.read24 ea).2).SP = s.SP := rfl
@[simp] theorem State.read24_PC (s : State) (ea : EffAddr) : ((s.read24 ea).2).PC = s.PC := rfl
@[simp] theorem State.read24_PBR (s : State) (ea : EffAddr) : ((s.read24 ea).2).PBR = s.PBR := rfl
@[simp] theorem State.read24_DBR (s : State) (ea : EffAddr) : ((s.read24 ea).2).DBR = s.DBR := rfl
@[simp] theorem State.read24_D (s : State) (ea : EffAddr) : ((s.read24 ea).2).D = s.D := rfl
@[simp] theorem State.read24_P (s : State) (ea : EffAddr) : ((s.read24 ea).2).P = s.P := rfl
@[simp] theorem State.read24_E (s : State) (ea : EffAddr) : ((s.read24 ea).2).E = s.E := rfl
@[simp] theorem State.read24_waiting (s : State) (ea : EffAddr) : ((s.read24 ea).2).waiting = s.waiting := rfl
@[simp] theorem State.read24_stopped (s : State) (ea : EffAddr) : ((s.read24 ea).2).stopped = s.stopped := rfl
@[simp] theorem State.read24_mv (s : State) (ea : EffAddr) : ((s.read24 ea).2).mv = s.mv := rfl
@[simp] theorem State.read24_nmiPending (s : State) (ea : EffAddr) : ((s.read24 ea).2).nmiPending = s.nmiPending := rfl
@[simp] theorem State.read24_irqPending (s : State) (ea : EffAddr) : ((s.read24 ea).2).irqPending = s.irqPending := rfl
@[simp] theorem State.read24_mem (s : State) (ea : EffAddr) : ((s.read24 ea).2).mem = s.mem := rfl

@[simp] theorem State.write16_A (s : State) (ea : EffAddr) (v : Word) : (s.write16 ea v).A = s.A := rfl
@[simp] theorem State.write16_X (s : State) (ea : EffAddr) (v : Word) : (s.write16 ea v).X = s.X := rfl
@[simp] theorem State.write16_Y (s : State) (ea : EffAddr) (v : Word) : (s.write16 ea v).Y = s.Y := rfl
@[simp] theorem State.write16_SP (s : State) (ea : EffAddr) (v : Word) : (s.write16 ea v).SP = s.SP := rfl
@[simp] theorem State.write16_PC (s : State) (ea : EffAddr) (v : Word) : (s.write16 ea v).PC = s.PC := rfl
@[simp] theorem State.write16_PBR (s : State) (ea : EffAddr) (v : Word) : (s.write16 ea v).PBR = s.PBR := rfl
@[simp] theorem State.write16_DBR (s : State) (ea : EffAddr) (v : Word) : (s.write16 ea v).DBR = s.DBR := rfl
@[simp] theorem State.write16_D (s : State) (ea : EffAddr) (v : Word) : (s.write16 ea v).D = s.D := rfl
@[simp] theorem State.write16_P (s : State) (ea : EffAddr) (v : Word) : (s.write16 ea v).P = s.P := rfl
@[simp] theorem State.write16_E (s : State) (ea : EffAddr) (v : Word) : (s.write16 ea v).E = s.E := rfl
@[simp] theorem State.write16_waiting (s : State) (ea : EffAddr) (v : Word) : (s.write16 ea v).waiting = s.waiting := rfl
@[simp] theorem State.write16_stopped (s : State) (ea : EffAddr) (v : Word) : (s.write16 ea v).stopped = s.stopped := rfl
@[simp] theorem State.write16_mv (s : State) (ea : EffAddr) (v : Word) : (s.write16 ea v).mv = s.mv := rfl
@[simp] theorem State.write16_nmiPending (s : State) (ea : EffAddr) (v : Word) : (s.write16 ea v).nmiPending = s.nmiPending := rfl
@[simp] theorem State.write16_irqPending (s : State) (ea : EffAddr) (v : Word) : (s.write16 ea v).irqPending = s.irqPending := rfl
@[simp] theorem State.write16_script (s : State) (ea : EffAddr) (v : Word) : (s.write16 ea v).script = s.script := rfl

@[simp] theorem State.push16_A (s : State) (v : Word) : (s.push16 v).A = s.A := rfl
@[simp] theorem State.push16_X (s : State) (v : Word) : (s.push16 v).X = s.X := rfl
@[simp] theorem State.push16_Y (s : State) (v : Word) : (s.push16 v).Y = s.Y := rfl
@[simp] theorem State.push16_PC (s : State) (v : Word) : (s.push16 v).PC = s.PC := rfl
@[simp] theorem State.push16_PBR (s : State) (v : Word) : (s.push16 v).PBR = s.PBR := rfl
@[simp] theorem State.push16_DBR (s : State) (v : Word) : (s.push16 v).DBR = s.DBR := rfl
@[simp] theorem State.push16_D (s : State) (v : Word) : (s.push16 v).D = s.D := rfl
@[simp] theorem State.push16_P (s : State) (v : Word) : (s.push16 v).P = s.P := rfl
@[simp] theorem State.push16_E (s : State) (v : Word) : (s.push16 v).E = s.E := rfl
@[simp] theorem State.push16_waiting (s : State) (v : Word) : (s.push16 v).waiting = s.waiting := rfl
@[simp] theorem State.push16_stopped (s : State) (v : Word) : (s.push16 v).stopped = s.stopped := rfl
@[simp] theorem State.push16_mv (s : State) (v : Word) : (s.push16 v).mv = s.mv := rfl
@[simp] theorem State.push16_nmiPending (s : State) (v : Word) : (s.push16 v).nmiPending = s.nmiPending := rfl
@[simp] theorem State.push16_irqPending (s : State) (v : Word) : (s.push16 v).irqPending = s.irqPending := rfl
@[simp] theorem State.push16_script (s : State) (v : Word) : (s.push16 v).script = s.script := rfl

@[simp] theorem State.pull16_A (s : State) : (s.pull16.2).A = s.A := rfl
@[simp] theorem State.pull16_X (s : State) : (s.pull16.2).X = s.X := rfl
@[simp] theorem State.pull16_Y (s : State) : (s.pull16.2).Y = s.Y := rfl
@[simp] theorem State.pull16_PC (s : State) : (s.pull16.2).PC = s.PC := rfl
@[simp] theorem State.pull16_PBR (s : State) : (s.pull16.2).PBR = s.PBR := rfl
@[simp] theorem State.pull16_DBR (s : State) : (s.pull16.2).DBR = s.DBR := rfl
@[simp] theorem State.pull16_D (s : State) : (s.pull16.2).D = s.D := rfl
@[simp] theorem State.pull16_P (s : State) : (s.pull16.2).P = s.P := rfl
@[simp] theorem State.pull16_E (s : State) : (s.pull16.2).E = s.E := rfl
@[simp] theorem State.pull16_waiting (s : State) : (s.pull16.2).waiting = s.waiting := rfl
@[simp] theorem State.pull16_stopped (s : State) : (s.pull16.2).stopped = s.stopped := rfl
@[simp] theorem State.pull16_mv (s : State) : (s.pull16.2).mv = s.mv := rfl
@[simp] theorem State.pull16_nmiPending (s : State) : (s.pull16.2).nmiPending = s.nmiPending := rfl
@[simp] theorem State.pull16_irqPending (s : State) : (s.pull16.2).irqPending = s.irqPending := rfl
@[simp] theorem State.pull16_mem (s : State) : (s.pull16.2).mem = s.mem := rfl

@[simp] theorem State.readOp_A (s : State) (ea : EffAddr) (w : Width) : ((s.readOp ea w).2).A = s.A := by cases w <;> rfl
@[simp] theorem State.readOp_X (s : State) (ea : EffAddr) (w : Width) : ((s.readOp ea w).2).X = s.X := by cases w <;> rfl
@[simp] theorem State.readOp_Y (s : State) (ea : EffAddr) (w : Width) : ((s.readOp ea w).2).Y = s.Y := by cases w <;> rfl
@[simp] theorem State.readOp_SP (s : State) (ea : EffAddr) (w : Width) : ((s.readOp ea w).2).SP = s.SP := by cases w <;> rfl
@[simp] theorem State.readOp_PC (s : State) (ea : EffAddr) (w : Width) : ((s.readOp ea w).2).PC = s.PC := by cases w <;> rfl
@[simp] theorem State.readOp_PBR (s : State) (ea : EffAddr) (w : Width) : ((s.readOp ea w).2).PBR = s.PBR := by cases w <;> rfl
@[simp] theorem State.readOp_DBR (s : State) (ea : EffAddr) (w : Width) : ((s.readOp ea w).2).DBR = s.DBR := by cases w <;> rfl
@[simp] theorem State.readOp_D (s : State) (ea : EffAddr) (w : Width) : ((s.readOp ea w).2).D = s.D := by cases w <;> rfl
@[simp] theorem State.readOp_P (s : State) (ea : EffAddr) (w : Width) : ((s.readOp ea w).2).P = s.P := by cases w <;> rfl
@[simp] theorem State.readOp_E (s : State) (ea : EffAddr) (w : Width) : ((s.readOp ea w).2).E = s.E := by cases w <;> rfl
@[simp] theorem State.readOp_waiting (s : State) (ea : EffAddr) (w : Width) : ((s.readOp ea w).2).waiting = s.waiting := by cases w <;> rfl
@[simp] theorem State.readOp_stopped (s : State) (ea : EffAddr) (w : Width) : ((s.readOp ea w).2).stopped = s.stopped := by cases w <;> rfl
@[simp] theorem State.readOp_mv (s : State) (ea : EffAddr) (w : Width) : ((s.readOp ea w).2).mv = s.mv := by cases w <;> rfl
@[simp] theorem State.readOp_nmiPending (s : State) (ea : EffAddr) (w : Width) : ((s.readOp ea w).2).nmiPending = s.nmiPending := by cases w <;> rfl
@[simp] theorem State.readOp_irqPending (s : State) (ea : EffAddr) (w : Width) : ((s.readOp ea w).2).irqPending = s.irqPending := by cases w <;> rfl
@[simp] theorem State.readOp_mem (s : State) (ea : EffAddr) (w : Width) : ((s.readOp ea w).2).mem = s.mem := by cases w <;> rfl

@[simp] theorem State.writeOp_A (s : State) (ea : EffAddr) (w : Width) (v : Word) : (s.writeOp ea w v).A = s.A := by cases w <;> rfl
@[simp] theorem State.writeOp_X (s : State) (ea : EffAddr) (w : Width) (v : Word) : (s.writeOp ea w v).X = s.X := by cases w <;> rfl
@[simp] theorem State.writeOp_Y (s : State) (ea : EffAddr) (w : Width) (v : Word) : (s.writeOp ea w v).Y = s.Y := by cases w <;> rfl
@[simp] theorem State.writeOp_SP (s : State) (ea : EffAddr) (w : Width) (v : Word) : (s.writeOp ea w v).SP = s.SP := by cases w <;> rfl
@[simp] theorem State.writeOp_PC (s : State) (ea : EffAddr) (w : Width) (v : Word) : (s.writeOp ea w v).PC = s.PC := by cases w <;> rfl
@[simp] theorem State.writeOp_PBR (s : State) (ea : EffAddr) (w : Width) (v : Word) : (s.writeOp ea w v).PBR = s.PBR := by cases w <;> rfl
@[simp] theorem State.writeOp_DBR (s : State) (ea : EffAddr) (w : Width) (v : Word) : (s.writeOp ea w v).DBR = s.DBR := by cases w <;> rfl
@[simp] theorem State.writeOp_D (s : State) (ea : EffAddr) (w : Width) (v : Word) : (s.writeOp ea w v).D = s.D := by cases w <;> rfl
@[simp] theorem State.writeOp_P (s : State) (ea : EffAddr) (w : Width) (v : Word) : (s.writeOp ea w v).P = s.P := by cases w <;> rfl
@[simp] theorem State.writeOp_E (s : State) (ea : EffAddr) (w : Width) (v : Word) : (s.writeOp ea w v).E = s.E := by cases w <;> rfl
@[simp] theorem State.writeOp_waiting (s : State) (ea : EffAddr) (w : Width) (v : Word) : (s.writeOp ea w v).waiting = s.waiting := by cases w <;> rfl
@[simp] theorem State.writeOp_stopped (s : State) (ea : EffAddr) (w : Width) (v : Word) : (s.writeOp ea w v).stopped = s.stopped := by cases w <;> rfl
@[simp] theorem State.writeOp_mv (s : State) (ea : EffAddr) (w : Width) (v : Word) : (s.writeOp ea w v).mv = s.mv := by cases w <;> rfl
@[simp] theorem State.writeOp_nmiPending (s : State) (ea : EffAddr) (w : Width) (v : Word) : (s.writeOp ea w v).nmiPending = s.nmiPending := by cases w <;> rfl
@[simp] theorem State.writeOp_irqPending (s : State) (ea : EffAddr) (w : Width) (v : Word) : (s.writeOp ea w v).irqPending = s.irqPending := by cases w <;> rfl
@[simp] theorem State.writeOp_script (s : State) (ea : EffAddr) (w : Width) (v : Word) : (s.writeOp ea w v).script = s.script := by cases w <;> rfl

@[simp] theorem State.resolve_A (s : State) (mode : DataMode) : ((s.resolve mode).2).A = s.A := by cases mode <;> rfl
@[simp] theorem State.resolve_X (s : State) (mode : DataMode) : ((s.resolve mode).2).X = s.X := by cases mode <;> rfl
@[simp] theorem State.resolve_Y (s : State) (mode : DataMode) : ((s.resolve mode).2).Y = s.Y := by cases mode <;> rfl
@[simp] theorem State.resolve_SP (s : State) (mode : DataMode) : ((s.resolve mode).2).SP = s.SP := by cases mode <;> rfl
@[simp] theorem State.resolve_PC (s : State) (mode : DataMode) : ((s.resolve mode).2).PC = s.PC := by cases mode <;> rfl
@[simp] theorem State.resolve_PBR (s : State) (mode : DataMode) : ((s.resolve mode).2).PBR = s.PBR := by cases mode <;> rfl
@[simp] theorem State.resolve_DBR (s : State) (mode : DataMode) : ((s.resolve mode).2).DBR = s.DBR := by cases mode <;> rfl
@[simp] theorem State.resolve_D (s : State) (mode : DataMode) : ((s.resolve mode).2).D = s.D := by cases mode <;> rfl
@[simp] theorem State.resolve_P (s : State) (mode : DataMode) : ((s.resolve mode).2).P = s.P := by cases mode <;> rfl
@[simp] theorem State.resolve_E (s : State) (mode : DataMode) : ((s.resolve mode).2).E = s.E := by cases mode <;> rfl
@[simp] theorem State.resolve_waiting (s : State) (mode : DataMode) : ((s.resolve mode).2).waiting = s.waiting := by cases mode <;> rfl
@[simp] theorem State.resolve_stopped (s : State) (mode : DataMode) : ((s.resolve mode).2).stopped = s.stopped := by cases mode <;> rfl
@[simp] theorem State.resolve_mv (s : State) (mode : DataMode) : ((s.resolve mode).2).mv = s.mv := by cases mode <;> rfl
@[simp] theorem State.resolve_nmiPending (s : State) (mode : DataMode) : ((s.resolve mode).2).nmiPending = s.nmiPending := by cases mode <;> rfl
@[simp] theorem State.resolve_irqPending (s : State) (mode : DataMode) : ((s.resolve mode).2).irqPending = s.irqPending := by cases mode <;> rfl
@[simp] theorem State.resolve_mem (s : State) (mode : DataMode) : ((s.resolve mode).2).mem = s.mem := by cases mode <;> rfl

@[simp] theorem State.readSource_A (s : State) (src : Source) (w : Width) : ((s.readSource src w).2).A = s.A := by cases src <;> simp [State.readSource]
@[simp] theorem State.readSource_X (s : State) (src : Source) (w : Width) : ((s.readSource src w).2).X = s.X := by cases src <;> simp [State.readSource]
@[simp] theorem State.readSource_Y (s : State) (src : Source) (w : Width) : ((s.readSource src w).2).Y = s.Y := by cases src <;> simp [State.readSource]
@[simp] theorem State.readSource_SP (s : State) (src : Source) (w : Width) : ((s.readSource src w).2).SP = s.SP := by cases src <;> simp [State.readSource]
@[simp] theorem State.readSource_PC (s : State) (src : Source) (w : Width) : ((s.readSource src w).2).PC = s.PC := by cases src <;> simp [State.readSource]
@[simp] theorem State.readSource_PBR (s : State) (src : Source) (w : Width) : ((s.readSource src w).2).PBR = s.PBR := by cases src <;> simp [State.readSource]
@[simp] theorem State.readSource_DBR (s : State) (src : Source) (w : Width) : ((s.readSource src w).2).DBR = s.DBR := by cases src <;> simp [State.readSource]
@[simp] theorem State.readSource_D (s : State) (src : Source) (w : Width) : ((s.readSource src w).2).D = s.D := by cases src <;> simp [State.readSource]
@[simp] theorem State.readSource_P (s : State) (src : Source) (w : Width) : ((s.readSource src w).2).P = s.P := by cases src <;> simp [State.readSource]
@[simp] theorem State.readSource_E (s : State) (src : Source) (w : Width) : ((s.readSource src w).2).E = s.E := by cases src <;> simp [State.readSource]
@[simp] theorem State.readSource_waiting (s : State) (src : Source) (w : Width) : ((s.readSource src w).2).waiting = s.waiting := by cases src <;> simp [State.readSource]
@[simp] theorem State.readSource_stopped (s : State) (src : Source) (w : Width) : ((s.readSource src w).2).stopped = s.stopped := by cases src <;> simp [State.readSource]
@[simp] theorem State.readSource_mv (s : State) (src : Source) (w : Width) : ((s.readSource src w).2).mv = s.mv := by cases src <;> simp [State.readSource]
@[simp] theorem State.readSource_nmiPending (s : State) (src : Source) (w : Width) : ((s.readSource src w).2).nmiPending = s.nmiPending := by cases src <;> simp [State.readSource]
@[simp] theorem State.readSource_irqPending (s : State) (src : Source) (w : Width) : ((s.readSource src w).2).irqPending = s.irqPending := by cases src <;> simp [State.readSource]
@[simp] theorem State.readSource_mem (s : State) (src : Source) (w : Width) : ((s.readSource src w).2).mem = s.mem := by cases src <;> simp [State.readSource]

@[simp] theorem State.storeAt_A (s : State) (mode : DataMode) (w : Width) (v : Word) : (s.storeAt mode w v).A = s.A := by simp [State.storeAt]
@[simp] theorem State.storeAt_X (s : State) (mode : DataMode) (w : Width) (v : Word) : (s.storeAt mode w v).X = s.X := by simp [State.storeAt]
@[simp] theorem State.storeAt_Y (s : State) (mode : DataMode) (w : Width) (v : Word) : (s.storeAt mode w v).Y = s.Y := by simp [State.storeAt]
@[simp] theorem State.storeAt_SP (s : State) (mode : DataMode) (w : Width) (v : Word) : (s.storeAt mode w v).SP = s.SP := by simp [State.storeAt]
@[simp] theorem State.storeAt_PC (s : State) (mode : DataMode) (w : Width) (v : Word) : (s.storeAt mode w v).PC = s.PC := by simp [State.storeAt]
@[simp] theorem State.storeAt_PBR (s : State) (mode : DataMode) (w : Width) (v : Word) : (s.storeAt mode w v).PBR = s.PBR := by simp [State.storeAt]
@[simp] theorem State.storeAt_DBR (s : State) (mode : DataMode) (w : Width) (v : Word) : (s.storeAt mode w v).DBR = s.DBR := by simp [State.storeAt]
@[simp] theorem State.storeAt_D (s : State) (mode : DataMode) (w : Width) (v : Word) : (s.storeAt mode w v).D = s.D := by simp [State.storeAt]
@[simp] theorem State.storeAt_P (s : State) (mode : DataMode) (w : Width) (v : Word) : (s.storeAt mode w v).P = s.P := by simp [State.storeAt]
@[simp] theorem State.storeAt_E (s : State) (mode : DataMode) (w : Width) (v : Word) : (s.storeAt mode w v).E = s.E := by simp [State.storeAt]
@[simp] theorem State.storeAt_waiting (s : State) (mode : DataMode) (w : Width) (v : Word) : (s.storeAt mode w v).waiting = s.waiting := by simp [State.storeAt]
@[simp] theorem State.storeAt_stopped (s : State) (mode : DataMode) (w : Width) (v : Word) : (s.storeAt mode w v).stopped = s.stopped := by simp [State.storeAt]
@[simp] theorem State.storeAt_mv (s : State) (mode : DataMode) (w : Width) (v : Word) : (s.storeAt mode w v).mv = s.mv := by simp [State.storeAt]
@[simp] theorem State.storeAt_nmiPending (s : State) (mode : DataMode) (w : Width) (v : Word) : (s.storeAt mode w v).nmiPending = s.nmiPending := by simp [State.storeAt]
@[simp] theorem State.storeAt_irqPending (s : State) (mode : DataMode) (w : Width) (v : Word) : (s.storeAt mode w v).irqPending = s.irqPending := by simp [State.storeAt]

@[simp] theorem State.pushW_A (s : State) (v : Word) (w : Width) : (s.pushW v w).A = s.A := by cases w <;> rfl
@[simp] theorem State.pushW_X (s : State) (v : Word) (w : Width) : (s.pushW v w).X = s.X := by cases w <;> rfl
@[simp] theorem State.pushW_Y (s : State) (v : Word) (w : Width) : (s.pushW v w).Y = s.Y := by cases w <;> rfl
@[simp] theorem State.pushW_PC (s : State) (v : Word) (w : Width) : (s.pushW v w).PC = s.PC := by cases w <;> rfl
@[simp] theorem State.pushW_PBR (s : State) (v : Word) (w : Width) : (s.pushW v w).PBR = s.PBR := by cases w <;> rfl
@[simp] theorem State.pushW_DBR (s : State) (v : Word) (w : Width) : (s.pushW v w).DBR = s.DBR := by cases w <;> rfl
@[simp] theorem State.pushW_D (s : State) (v : Word) (w : Width) : (s.pushW v w).D = s.D := by cases w <;> rfl
@[simp] theorem State.pushW_P (s : State) (v : Word) (w : Width) : (s.pushW v w).P = s.P := by cases w <;> rfl
@[simp] theorem State.pushW_E (s : State) (v : Word) (w : Width) : (s.pushW v w).E = s.E := by cases w <;> rfl
@[simp] theorem State.pushW_waiting (s : State) (v : Word) (w : Width) : (s.pushW v w).waiting = s.waiting := by cases w <;> rfl
@[simp] theorem State.pushW_stopped (s : State) (v : Word) (w : Width) : (s.pushW v w).stopped = s.stopped := by cases w <;> rfl
@[simp] theorem State.pushW_mv (s : State) (v : Word) (w : Width) : (s.pushW v w).mv = s.mv := by cases w <;> rfl
@[simp] theorem State.pushW_nmiPending (s : State) (v : Word) (w : Width) : (s.pushW v w).nmiPending = s.nmiPending := by cases w <;> rfl
@[simp] theorem State.pushW_irqPending (s : State) (v : Word) (w : Width) : (s.pushW v w).irqPending = s.irqPending := by cases w <;> rfl
@[simp] theorem State.pushW_script (s : State) (v : Word) (w : Width) : (s.pushW v w).script = s.script := by cases w <;> rfl

@[simp] theorem State.pullW_A (s : State) (w : Width) : ((s.pullW w).2).A = s.A := by cases w <;> rfl
@[simp] theorem State.pullW_X (s : State) (w : Width) : ((s.pullW w).2).X = s.X := by cases w <;> rfl
@[simp] theorem State.pullW_Y (s : State) (w : Width) : ((s.pullW w).2).Y = s.Y := by cases w <;> rfl
@[simp] theorem State.pullW_PC (s : State) (w : Width) : ((s.pullW w).2).PC = s.PC := by cases w <;> rfl
@[simp] theorem State.pullW_PBR (s : State) (w : Width) : ((s.pullW w).2).PBR = s.PBR := by cases w <;> rfl
@[simp] theorem State.pullW_DBR (s : State) (w : Width) : ((s.pullW w).2).DBR = s.DBR := by cases w <;> rfl
@[simp] theorem State.pullW_D (s : State) (w : Width) : ((s.pullW w).2).D = s.D := by cases w <;> rfl
@[simp] theorem State.pullW_P (s : State) (w : Width) : ((s.pullW w).2).P = s.P := by cases w <;> rfl
@[simp] theorem State.pullW_E (s : State) (w : Width) : ((s.pullW w).2).E = s.E := by cases w <;> rfl
@[simp] theorem State.pullW_waiting (s : State) (w : Width) : ((s.pullW w).2).waiting = s.waiting := by cases w <;> rfl
@[simp] theorem State.pullW_stopped (s : State) (w : Width) : ((s.pullW w).2).stopped = s.stopped := by cases w <;> rfl
@[simp] theorem State.pullW_mv (s : State) (w : Width) : ((s.pullW w).2).mv = s.mv := by cases w <;> rfl
@[simp] theorem State.pullW_nmiPending (s : State) (w : Width) : ((s.pullW w).2).nmiPending = s.nmiPending := by cases w <;> rfl
@[simp] theorem State.pullW_irqPending (s : State) (w : Width) : ((s.pullW w).2).irqPending = s.irqPending := by cases w <;> rfl
@[simp] theorem State.pullW_mem (s : State) (w : Width) : ((s.pullW w).2).mem = s.mem := by cases w <;> rfl

@[simp] theorem State.fetchByte_A (s : State) : (s.fetchByte.2).A = s.A := rfl
@[simp] theorem State.fetchByte_X (s : State) : (s.fetchByte.2).X = s.X := rfl
@[simp] theorem State.fetchByte_Y (s : State) : (s.fetchByte.2).Y = s.Y := rfl
@[simp] theorem State.fetchByte_SP (s : State) : (s.fetchByte.2).SP = s.SP := rfl
@[simp] theorem State.fetchByte_PBR (s : State) : (s.fetchByte.2).PBR = s.PBR := rfl
@[simp] theorem State.fetchByte_DBR (s : State) : (s.fetchByte.2).DBR = s.DBR := rfl
@[simp] theorem State.fetchByte_D (s : State) : (s.fetchByte.2).D = s.D := rfl
@[simp] theorem State.fetchByte_P (s : State) : (s.fetchByte.2).P = s.P := rfl
@[simp] theorem State.fetchByte_E (s : State) : (s.fetchByte.2).E = s.E := rfl
@[simp] theorem State.fetchByte_waiting (s : State) : (s.fetchByte.2).waiting = s.waiting := rfl
@[simp] theorem State.fetchByte_stopped (s : State) : (s.fetchByte.2).stopped = s.stopped := rfl
@[simp] theorem State.fetchByte_mv (s : State) : (s.fetchByte.2).mv = s.mv := rfl
@[simp] theorem State.fetchByte_nmiPending (s : State) : (s.fetchByte.2).nmiPending = s.nmiPending := rfl
@[simp] theorem State.fetchByte_irqPending (s : State) : (s.fetchByte.2).irqPending = s.irqPending := rfl
@[simp] theorem State.fetchByte_mem (s : State) : (s.fetchByte.2).mem = s.mem := rfl

@[simp] theorem State.pushFrame_A (s : State) (kind : InterruptKind) : (s.pushFrame kind).A = s.A := by cases h : s.E <;> simp [State.pushFrame, h]
@[simp] theorem State.pushFrame_X (s : State) (kind : InterruptKind) : (s.pushFrame kind).X = s.X := by cases h : s.E <;> simp [State.pushFrame, h]
@[simp] theorem State.pushFrame_Y (s : State) (kind : InterruptKind) : (s.pushFrame kind).Y = s.Y := by cases h : s.E <;> simp [State.pushFrame, h]
@[simp] theorem State.pushFrame_PC (s : State) (kind : InterruptKind) : (s.pushFrame kind).PC = s.PC := by cases h : s.E <;> simp [State.pushFrame, h]
@[simp] theorem State.pushFrame_PBR (s : State) (kind : InterruptKind) : (s.pushFrame kind).PBR = s.PBR := by cases h : s.E <;> simp [State.pushFrame, h]
@[simp] theorem State.pushFrame_DBR (s : State) (kind : InterruptKind) : (s.pushFrame kind).DBR = s.DBR := by cases h : s.E <;> simp [State.pushFrame, h]
@[simp] theorem State.pushFrame_D (s : State) (kind : InterruptKind) : (s.pushFrame kind).D = s.D := by cases h : s.E <;> simp [State.pushFrame, h]
@[simp] theorem State.pushFrame_P (s : State) (kind : InterruptKind) : (s.pushFrame kind).P = s.P := by cases h : s.E <;> simp [State.pushFrame, h]
@[simp] theorem State.pushFrame_E (s : State) (kind : InterruptKind) : (s.pushFrame kind).E = s.E := by cases h : s.E <;> simp [State.pushFrame, h]
@[simp] theorem State.pushFrame_waiting (s : State) (kind : InterruptKind) : (s.pushFrame kind).waiting = s.waiting := by cases h : s.E <;> simp [State.pushFrame, h]
@[simp] theorem State.pushFrame_stopped (s : State) (kind : InterruptKind) : (s.pushFrame kind).stopped = s.stopped := by cases h : s.E <;> simp [State.pushFrame, h]
@[simp] theorem State.pushFrame_mv (s : State) (kind : InterruptKind) : (s.pushFrame kind).mv = s.mv := by cases h : s.E <;> simp [State.pushFrame, h]
@[simp] theorem State.pushFrame_nmiPending (s : State) (kind : InterruptKind) : (s.pushFrame kind).nmiPending = s.nmiPending := by cases h : s.E <;> simp [State.pushFrame, h]
@[simp] theorem State.pushFrame_irqPending (s : State) (kind : InterruptKind) : (s.pushFrame kind).irqPending = s.irqPending := by cases h : s.E <;> simp [State.pushFrame, h]
@[simp] theorem State.pushFrame_script (s : State) (kind : InterruptKind) : (s.pushFrame kind).script = s.script := by cases h : s.E <;> simp [State.pushFrame, h]

/-! ## Whole-state frames -/

theorem PortOnly.refl (s : State) : PortOnly s s := rfl

theorem PortOnly.trans {s t u : State} (h : PortOnly s t) (k : PortOnly t u) : PortOnly s u := by
  unfold PortOnly at *
  rw [k, h]

theorem StoreOnly.refl (s : State) : StoreOnly s s := rfl

theorem StoreOnly.trans {s t u : State} (h : StoreOnly s t) (k : StoreOnly t u) : StoreOnly s u := by
  unfold StoreOnly at *
  rw [k, h]

theorem PortOnly.store {s t : State} (h : PortOnly s t) : StoreOnly s t := by
  unfold PortOnly at h
  unfold StoreOnly
  rw [h]

/-- Two states that agree on the engine's fields and on RAM differ in the port only. -/
theorem State.read8_portOnly (s : State) (ea : EffAddr) : PortOnly s (s.read8 ea).2 := rfl

theorem State.read16_portOnly (s : State) (ea : EffAddr) : PortOnly s (s.read16 ea).2 := rfl

theorem State.read24_portOnly (s : State) (ea : EffAddr) : PortOnly s (s.read24 ea).2 := rfl

theorem State.readOp_portOnly (s : State) (ea : EffAddr) (w : Width) : PortOnly s (s.readOp ea w).2 := by
  cases w <;> rfl

/-- The resolver reads registers and pointers and writes nothing (R120). -/
theorem State.resolve_portOnly (s : State) (mode : DataMode) : PortOnly s (s.resolve mode).2 := by
  cases mode <;> rfl

theorem State.readSource_portOnly (s : State) (src : Source) (w : Width) : PortOnly s (s.readSource src w).2 := by
  cases src with
  | imm v => rfl
  | mem mode => exact (s.resolve_portOnly mode).trans (State.readOp_portOnly _ _ _)

theorem State.write8_storeOnly (s : State) (ea : EffAddr) (v : Byte) : StoreOnly s (s.write8 ea v) := rfl

theorem State.write16_storeOnly (s : State) (ea : EffAddr) (v : Word) : StoreOnly s (s.write16 ea v) := rfl

theorem State.writeOp_storeOnly (s : State) (ea : EffAddr) (w : Width) (v : Word) : StoreOnly s (s.writeOp ea w v) := by
  cases w <;> rfl

theorem State.storeAt_storeOnly (s : State) (mode : DataMode) (w : Width) (v : Word) : StoreOnly s (s.storeAt mode w v) :=
  (s.resolve_portOnly mode).store.trans (State.writeOp_storeOnly _ _ _ _)

/-! ## Values read -/

/-- With no scripted answer the port is flat RAM (R60). -/
theorem State.answer_ram (s : State) (a : Addr) (h : s.script = []) : s.answer a = s.ram a := by
  simp [State.answer, h, State.ram]

@[simp] theorem State.pull8_value (s : State) : s.pull8.1 = s.answer (mkAddr 0 (stackUp s.E s.SP)) := rfl

theorem State.read16_ram (s : State) (ea : EffAddr) (h : s.script = []) :
    (s.read16 ea).1 = mkWord (s.ram ea.next.addr) (s.ram ea.addr) := by
  simp [State.read16, State.answer, h, State.ram]

theorem State.read24_ram (s : State) (ea : EffAddr) (h : s.script = []) :
    (s.read24 ea).1 = mkAddr (s.ram ea.next.next.addr) (mkWord (s.ram ea.next.addr) (s.ram ea.addr)) := by
  simp [State.read24, State.read16, State.answer, h, State.ram]

theorem State.readOp_fits (s : State) (ea : EffAddr) (w : Width) : Fits (s.readOp ea w).1 w := by
  cases w
  · exact fits_byte _ _
  · exact fits_word _

theorem Imm.valueAt_fits (v : Imm) (w : Width) : Fits (Imm.valueAt v w) w := by
  cases v
  · exact fits_byte _ _
  · exact fits_mask _ _

/-- An operand read at a width fits it. -/
theorem State.readSource_fits (s : State) (src : Source) (w : Width) : Fits (s.readSource src w).1 w := by
  cases src with
  | imm v => exact Imm.valueAt_fits v w
  | mem mode => exact State.readOp_fits _ _ _

/-! ## Memory after a store -/

theorem State.ram_writeByte_ne (s : State) (a b : Addr) (v : Byte) (h : b ≠ a) : (s.writeByte a v).ram b = s.ram b :=
  Memory.read_write_ne _ _ _ _ fun e => h (BitVec.eq_of_toNat_eq e)

theorem State.ram_writeByte_same (s : State) (a : Addr) (v : Byte) (h : s.mem.wf = true) : (s.writeByte a v).ram a = v :=
  Memory.read_write_same_from s.mem 0 a.toNat v h

theorem State.writeByte_wf (s : State) (a : Addr) (v : Byte) (h : s.mem.wf = true) : (s.writeByte a v).mem.wf = true :=
  Memory.write_wf _ _ _ h

/-- The byte after an address is another byte. -/
theorem EffAddr.next_ne (ea : EffAddr) : ea.next.addr ≠ ea.addr := by
  obtain ⟨a, k⟩ := ea
  intro h
  have ha := a.isLt
  have h1 := congrArg BitVec.toNat h
  cases k
  · change (a.toNat + 1) % 2 ^ 24 = a.toNat at h1
    omega
  · change (mkAddr (bankOf a) (offsetOf a + 1)).toNat = a.toNat at h1
    have h2 : (offsetOf a + 1).toNat = (a.toNat % 65536 + 1) % 65536 := by rw [← toNat_offsetOf]; rfl
    rw [toNat_mkAddr, toNat_bankOf, h2] at h1
    omega

/-- A store leaves every byte outside its span alone. -/
theorem State.writeOp_frame (s : State) (ea : EffAddr) (w : Width) (v : Word) : KeepsRamExcept (ea.span w) s (s.writeOp ea w v) := by
  intro b hb
  cases w
  · exact State.ram_writeByte_ne _ _ _ _ (by simpa [EffAddr.span] using hb)
  · simp only [EffAddr.span, List.mem_cons, List.not_mem_nil, or_false, not_or] at hb
    exact (State.ram_writeByte_ne _ _ _ _ hb.2).trans (State.ram_writeByte_ne _ _ _ _ hb.1)

/-- The low byte of a store lands at its address. -/
theorem State.writeOp_low (s : State) (ea : EffAddr) (w : Width) (v : Word) (h : s.mem.wf = true) :
    (s.writeOp ea w v).ram ea.addr = lo8 v := by
  cases w
  · exact State.ram_writeByte_same _ _ _ h
  · exact (State.ram_writeByte_ne _ _ _ _ (Ne.symm ea.next_ne)).trans (State.ram_writeByte_same _ _ _ h)

/-- The high byte of a 16-bit store lands at the byte after. -/
theorem State.writeOp_high (s : State) (ea : EffAddr) (v : Word) (h : s.mem.wf = true) :
    (s.writeOp ea .w16 v).ram ea.next.addr = hi8 v :=
  State.ram_writeByte_same _ _ _ (State.writeByte_wf _ _ _ h)

theorem State.writeOp_wf (s : State) (ea : EffAddr) (w : Width) (v : Word) (h : s.mem.wf = true) : (s.writeOp ea w v).mem.wf = true := by
  cases w
  · exact State.writeByte_wf _ _ _ h
  · exact State.writeByte_wf _ _ _ (State.writeByte_wf _ _ _ h)

theorem State.storeAt_wf (s : State) (mode : DataMode) (w : Width) (v : Word) (h : s.mem.wf = true) : (s.storeAt mode w v).mem.wf = true :=
  State.writeOp_wf _ _ _ _ (by simpa using h)

theorem State.push8_wf (s : State) (v : Byte) (h : s.mem.wf = true) : (s.push8 v).mem.wf = true :=
  Memory.write_wf _ _ _ h

theorem State.push16_wf (s : State) (v : Word) (h : s.mem.wf = true) : (s.push16 v).mem.wf = true :=
  State.push8_wf _ _ (State.push8_wf _ _ h)

theorem State.pushW_wf (s : State) (v : Word) (w : Width) (h : s.mem.wf = true) : (s.pushW v w).mem.wf = true := by
  cases w
  · exact State.push8_wf _ _ h
  · exact State.push16_wf _ _ h

theorem State.pushFrame_wf (s : State) (kind : InterruptKind) (h : s.mem.wf = true) : (s.pushFrame kind).mem.wf = true := by
  unfold State.pushFrame
  split
  · exact State.push8_wf _ _ (State.push16_wf _ _ h)
  · exact State.push8_wf _ _ (State.push16_wf _ _ (State.push8_wf _ _ h))

/-- A push leaves every byte but the one at `{$00, SP}` alone. -/
theorem State.ram_push8_ne (s : State) (v : Byte) (b : Addr) (h : b ≠ mkAddr 0 s.SP) : (s.push8 v).ram b = s.ram b :=
  State.ram_writeByte_ne s _ _ _ h

theorem State.ram_push8_same (s : State) (v : Byte) (h : s.mem.wf = true) : (s.push8 v).ram (mkAddr 0 s.SP) = v :=
  State.ram_writeByte_same s _ _ h

/-! ## Stack pointers in emulation mode stay in page 1 -/

/-- `SP` is legal for the mode (10_state.md R24). -/
def State.StackLegal (s : State) : Prop :=
  s.E = true → hi8 s.SP = 0x01#8

theorem State.push8_legal (s : State) (v : Byte) : (s.push8 v).StackLegal := by
  intro h
  simp only [State.push8_E] at h
  simp [h]

theorem State.push16_legal (s : State) (v : Word) : (s.push16 v).StackLegal :=
  State.push8_legal _ _

theorem State.pushW_legal (s : State) (v : Word) (w : Width) : (s.pushW v w).StackLegal := by
  cases w
  · exact State.push8_legal _ _
  · exact State.push16_legal _ _

theorem State.pull8_legal (s : State) : s.pull8.2.StackLegal := by
  intro h
  simp only [State.pull8_E] at h
  simp [h]

theorem State.pull16_legal (s : State) : s.pull16.2.StackLegal :=
  State.pull8_legal _

theorem State.pullW_legal (s : State) (w : Width) : (s.pullW w).2.StackLegal := by
  cases w
  · exact State.pull8_legal _
  · exact State.pull16_legal _

theorem State.pushFrame_legal (s : State) (kind : InterruptKind) : (s.pushFrame kind).StackLegal :=
  State.push8_legal _ _

/-! ## Taking an interrupt and returning -/

/-- What the entry of an interrupt leaves alone (60_exceptions.md R389), and what it sets (R388). -/
theorem State.takeInterrupt_fields (s : State) (kind : InterruptKind) :
    (s.takeInterrupt kind).A = s.A ∧ (s.takeInterrupt kind).X = s.X ∧ (s.takeInterrupt kind).Y = s.Y ∧
      (s.takeInterrupt kind).D = s.D ∧ (s.takeInterrupt kind).DBR = s.DBR ∧ (s.takeInterrupt kind).E = s.E ∧
      (s.takeInterrupt kind).waiting = s.waiting ∧ (s.takeInterrupt kind).stopped = s.stopped ∧
      (s.takeInterrupt kind).mv = s.mv ∧ (s.takeInterrupt kind).nmiPending = s.nmiPending ∧
      (s.takeInterrupt kind).irqPending = s.irqPending ∧ (s.takeInterrupt kind).P = handlerStatus s.P ∧
      (s.takeInterrupt kind).PBR = 0 ∧ (s.takeInterrupt kind).SP = (s.pushFrame kind).SP ∧
      (s.takeInterrupt kind).mem = (s.pushFrame kind).mem := by
  simp [State.takeInterrupt]

end Sys2Proof.Machine
end

