-- ==== Sys2Proof/Laws/Exec.lean ====
section
/-! SUPPORT. What `exec` answers, mnemonic by mnemonic, and what each shared effect does to the state as a whole: one equation
per effect, with every field it can change written out. Later proofs cite these and unfold neither `exec` nor a meaning. -/

namespace Sys2Proof.Machine

/-! ## The forms of the instructions that have several -/

/-- The effect of an instruction on a source operand. -/
def ReadsSource (f : Source → State → State) (i : Instr) : Prop :=
  ∃ src, i.operand.source? = some src ∧ ∀ s, exec i s = .next (f src s)

/-- The effect of an instruction on a memory form. -/
def UsesMode (f : DataMode → State → State) (i : Instr) : Prop :=
  ∃ mode, i.operand.mode? = some mode ∧ ∀ s, exec i s = .next (f mode s)

/-- The effect of an instruction on the accumulator or a memory form. -/
def UsesTarget (f : Target → State → State) (i : Instr) : Prop :=
  ∃ tgt, i.operand.target? = some tgt ∧ ∀ s, exec i s = .next (f tgt s)

/-- What `exec` does with the instructions that have several forms. -/
theorem exec_forms (i : Instr) :
    match i.mnemonic with
    | .LDA => ReadsSource lda i
    | .LDX => ReadsSource ldx i
    | .LDY => ReadsSource ldy i
    | .STA => UsesMode sta i
    | .STX => UsesMode stx i
    | .STY => UsesMode sty i
    | .STZ => UsesMode stz i
    | .ORA => ReadsSource ora i
    | .AND => ReadsSource andA i
    | .EOR => ReadsSource eor i
    | .ADC => ReadsSource adc i
    | .SBC => ReadsSource sbc i
    | .ASL => UsesTarget asl i
    | .LSR => UsesTarget lsr i
    | .ROL => UsesTarget rol i
    | .ROR => UsesTarget ror i
    | .INC => UsesTarget inc i
    | .DEC => UsesTarget dec i
    | .CMP => ReadsSource cmp i
    | .CPX => ReadsSource cpx i
    | .CPY => ReadsSource cpy i
    | .BIT => ReadsSource bit i
    | .TSB => UsesMode tsb i
    | .TRB => UsesMode trb i
    | _ => True := by
  cases i <;> first | trivial | exact ⟨_, rfl, fun _ => rfl⟩

/-! ## The effects as equations -/

theorem State.accumulate_eq (s : State) (f : Byte → Word → Word → Width → Word × Byte) (src : Source) :
    s.accumulate f src =
      { s with
        A := mergeA s.A (f s.P (s.readA s.wM) (s.readSource src s.wM).1 s.wM).1 s.wM
        P := (f s.P (s.readA s.wM) (s.readSource src s.wM).1 s.wM).2
        script := (s.readSource src s.wM).2.script
        trace := (s.readSource src s.wM).2.trace } := by
  simp [State.accumulate, State.writeA, State.withP]

theorem lda_eq (src : Source) (s : State) :
    lda src s =
      { s with
        A := mergeA s.A (s.readSource src s.wM).1 s.wM
        P := setNZ s.P (s.readSource src s.wM).1 s.wM
        script := (s.readSource src s.wM).2.script
        trace := (s.readSource src s.wM).2.trace } := by
  simp [lda, State.writeA, State.setNZ, State.withP]

theorem ldx_eq (src : Source) (s : State) :
    ldx src s =
      { s with
        X := (s.readSource src s.wX).1
        P := setNZ s.P (s.readSource src s.wX).1 s.wX
        script := (s.readSource src s.wX).2.script
        trace := (s.readSource src s.wX).2.trace } := by
  simp [ldx, State.writeX, State.setNZ, State.withP, indexValue_of_fits _ _ (s.readSource_fits src s.wX)]

theorem ldy_eq (src : Source) (s : State) :
    ldy src s =
      { s with
        Y := (s.readSource src s.wX).1
        P := setNZ s.P (s.readSource src s.wX).1 s.wX
        script := (s.readSource src s.wX).2.script
        trace := (s.readSource src s.wX).2.trace } := by
  simp [ldy, State.writeY, State.setNZ, State.withP, indexValue_of_fits _ _ (s.readSource_fits src s.wX)]

theorem State.compare_eq (s : State) (a : Word) (w : Width) (src : Source) :
    s.compare a w src =
      { s with
        P := compareFlags s.P a (s.readSource src w).1 w
        script := (s.readSource src w).2.script
        trace := (s.readSource src w).2.trace } := by
  simp [State.compare, State.withP]

theorem bit_eq (src : Source) (s : State) :
    bit src s =
      { s with
        P := match src with
          | .imm _ => testZ s.P (s.readA s.wM) (s.readSource src s.wM).1
          | .mem _ => bitFlags s.P (s.readA s.wM) (s.readSource src s.wM).1 s.wM
        script := (s.readSource src s.wM).2.script
        trace := (s.readSource src s.wM).2.trace } := by
  cases src <;> simp [bit, State.withP]

/-- What a store does to the whole state. -/
theorem State.writeOp_eq (s : State) (ea : EffAddr) (w : Width) (v : Word) :
    s.writeOp ea w v = { s with mem := (s.writeOp ea w v).mem, trace := storeRecord ea w v s.trace } := by
  cases w <;> rfl

/-- What a store leaves in memory depends on memory alone. -/
theorem State.writeOp_mem_congr (s t : State) (ea : EffAddr) (w : Width) (v : Word) (h : t.mem = s.mem) :
    (t.writeOp ea w v).mem = (s.writeOp ea w v).mem := by
  cases w <;> simp [State.writeOp, State.write16, State.write8, State.writeByte, h]

theorem State.modify_acc (s : State) (f : Byte → Word → Width → Word × Byte) :
    s.modify .acc f =
      { s with A := mergeA s.A (f s.P (s.readA s.wM) s.wM).1 s.wM, P := (f s.P (s.readA s.wM) s.wM).2 } := rfl

theorem State.modify_mem (s : State) (mode : DataMode) (f : Byte → Word → Width → Word × Byte) :
    s.modify (.mem mode) f =
      { s with
        P := (f s.P (s.readSource (.mem mode) s.wM).1 s.wM).2
        mem := (s.writeOp (s.resolve mode).1 s.wM (f s.P (s.readSource (.mem mode) s.wM).1 s.wM).1).mem
        script := (s.readSource (.mem mode) s.wM).2.script
        trace := storeRecord (s.resolve mode).1 s.wM (f s.P (s.readSource (.mem mode) s.wM).1 s.wM).1
          (s.readSource (.mem mode) s.wM).2.trace } := by
  simp only [State.modify, State.readSource]
  rw [State.writeOp_eq, State.writeOp_mem_congr s _ _ _ _ (by simp [State.withP])]
  simp [State.withP]

theorem State.storeAt_eq (s : State) (mode : DataMode) (w : Width) (v : Word) :
    s.storeAt mode w v =
      { s with
        mem := (s.writeOp (s.resolve mode).1 w v).mem
        script := (s.resolve mode).2.script
        trace := storeRecord (s.resolve mode).1 w v (s.resolve mode).2.trace } := by
  rw [State.storeAt, State.writeOp_eq, State.writeOp_mem_congr s _ _ _ _ (by simp)]
  simp

end Sys2Proof.Machine
end

