-- ==== Sys2Proof/Laws/Decode.lean ====
section
/-! SUPPORT. The laws of the decoder and the encoder: the matrix cell by cell (30_encoding.md R96), the operand fields taken
from the operand bytes (R93), and that the decoder's answer has the opcode it was given. -/

namespace Sys2Proof.Laws

/-- The fields a decoder finds after the opcode. -/
def fieldsOf (m x : Bool) (bytes : List Byte) : Fields :=
  ⟨bytes.getD 0 0, bytes.getD 1 0, bytes.getD 2 0, m, x⟩

theorem word_fieldsOf (m x : Bool) (v : Word) (rest : List Byte) : (fieldsOf m x (wordBytes v ++ rest)).word = v :=
  mkWord_hi8_lo8 v

theorem long_fieldsOf (m x : Bool) (v : Addr) (rest : List Byte) : (fieldsOf m x (longBytes v ++ rest)).long = v :=
  (congrArg (mkAddr (bankOf v)) (mkWord_hi8_lo8 (offsetOf v))).trans (mkAddr_bankOf_offsetOf v)

theorem immM_fieldsOf (m x : Bool) (v : Imm) (rest : List Byte) (h : v.isByte = m) :
    (fieldsOf m x (v.bytes ++ rest)).immM = v := by
  subst h
  cases v with
  | b8 b => rfl
  | b16 w => exact congrArg Imm.b16 (mkWord_hi8_lo8 w)

theorem immX_fieldsOf (m x : Bool) (v : Imm) (rest : List Byte) (h : v.isByte = x) :
    (fieldsOf m x (v.bytes ++ rest)).immX = v := by
  subst h
  cases v with
  | b8 b => rfl
  | b16 w => exact congrArg Imm.b16 (mkWord_hi8_lo8 w)

theorem immM_length (m x : Bool) (v : Imm) (h : v.isByte = m) : Format.IMMM.operandBytes m x = v.bytes.length := by
  subst h
  cases v <;> rfl

theorem immX_length (m x : Bool) (v : Imm) (h : v.isByte = x) : Format.IMMX.operandBytes m x = v.bytes.length := by
  subst h
  cases v <;> rfl

/-! ## The matrix, cell by cell -/

@[simp] theorem cell_00 (f : Fields) : decodeOpcode 0x00#8 f = .brk f.b1 := rfl
@[simp] theorem cell_01 (f : Fields) : decodeOpcode 0x01#8 f = .oraIDpX f.b1 := rfl
@[simp] theorem cell_02 (f : Fields) : decodeOpcode 0x02#8 f = .cop f.b1 := rfl
@[simp] theorem cell_03 (f : Fields) : decodeOpcode 0x03#8 f = .oraSr f.b1 := rfl
@[simp] theorem cell_04 (f : Fields) : decodeOpcode 0x04#8 f = .tsbDp f.b1 := rfl
@[simp] theorem cell_05 (f : Fields) : decodeOpcode 0x05#8 f = .oraDp f.b1 := rfl
@[simp] theorem cell_06 (f : Fields) : decodeOpcode 0x06#8 f = .aslDp f.b1 := rfl
@[simp] theorem cell_07 (f : Fields) : decodeOpcode 0x07#8 f = .oraILDp f.b1 := rfl
@[simp] theorem cell_08 (f : Fields) : decodeOpcode 0x08#8 f = .php := rfl
@[simp] theorem cell_09 (f : Fields) : decodeOpcode 0x09#8 f = .oraImm f.immM := rfl
@[simp] theorem cell_0A (f : Fields) : decodeOpcode 0x0A#8 f = .aslAcc := rfl
@[simp] theorem cell_0B (f : Fields) : decodeOpcode 0x0B#8 f = .phd := rfl
@[simp] theorem cell_0C (f : Fields) : decodeOpcode 0x0C#8 f = .tsbAbs f.word := rfl
@[simp] theorem cell_0D (f : Fields) : decodeOpcode 0x0D#8 f = .oraAbs f.word := rfl
@[simp] theorem cell_0E (f : Fields) : decodeOpcode 0x0E#8 f = .aslAbs f.word := rfl
@[simp] theorem cell_0F (f : Fields) : decodeOpcode 0x0F#8 f = .oraLong f.long := rfl
@[simp] theorem cell_10 (f : Fields) : decodeOpcode 0x10#8 f = .bpl f.b1 := rfl
@[simp] theorem cell_11 (f : Fields) : decodeOpcode 0x11#8 f = .oraIDpY f.b1 := rfl
@[simp] theorem cell_12 (f : Fields) : decodeOpcode 0x12#8 f = .oraIDp f.b1 := rfl
@[simp] theorem cell_13 (f : Fields) : decodeOpcode 0x13#8 f = .oraISrY f.b1 := rfl
@[simp] theorem cell_14 (f : Fields) : decodeOpcode 0x14#8 f = .trbDp f.b1 := rfl
@[simp] theorem cell_15 (f : Fields) : decodeOpcode 0x15#8 f = .oraDpX f.b1 := rfl
@[simp] theorem cell_16 (f : Fields) : decodeOpcode 0x16#8 f = .aslDpX f.b1 := rfl
@[simp] theorem cell_17 (f : Fields) : decodeOpcode 0x17#8 f = .oraILDpY f.b1 := rfl
@[simp] theorem cell_18 (f : Fields) : decodeOpcode 0x18#8 f = .clc := rfl
@[simp] theorem cell_19 (f : Fields) : decodeOpcode 0x19#8 f = .oraAbsY f.word := rfl
@[simp] theorem cell_1A (f : Fields) : decodeOpcode 0x1A#8 f = .incAcc := rfl
@[simp] theorem cell_1B (f : Fields) : decodeOpcode 0x1B#8 f = .tcs := rfl
@[simp] theorem cell_1C (f : Fields) : decodeOpcode 0x1C#8 f = .trbAbs f.word := rfl
@[simp] theorem cell_1D (f : Fields) : decodeOpcode 0x1D#8 f = .oraAbsX f.word := rfl
@[simp] theorem cell_1E (f : Fields) : decodeOpcode 0x1E#8 f = .aslAbsX f.word := rfl
@[simp] theorem cell_1F (f : Fields) : decodeOpcode 0x1F#8 f = .oraLongX f.long := rfl
@[simp] theorem cell_20 (f : Fields) : decodeOpcode 0x20#8 f = .jsrAbs f.word := rfl
@[simp] theorem cell_21 (f : Fields) : decodeOpcode 0x21#8 f = .andIDpX f.b1 := rfl
@[simp] theorem cell_22 (f : Fields) : decodeOpcode 0x22#8 f = .jsl f.long := rfl
@[simp] theorem cell_23 (f : Fields) : decodeOpcode 0x23#8 f = .andSr f.b1 := rfl
@[simp] theorem cell_24 (f : Fields) : decodeOpcode 0x24#8 f = .bitDp f.b1 := rfl
@[simp] theorem cell_25 (f : Fields) : decodeOpcode 0x25#8 f = .andDp f.b1 := rfl
@[simp] theorem cell_26 (f : Fields) : decodeOpcode 0x26#8 f = .rolDp f.b1 := rfl
@[simp] theorem cell_27 (f : Fields) : decodeOpcode 0x27#8 f = .andILDp f.b1 := rfl
@[simp] theorem cell_28 (f : Fields) : decodeOpcode 0x28#8 f = .plp := rfl
@[simp] theorem cell_29 (f : Fields) : decodeOpcode 0x29#8 f = .andImm f.immM := rfl
@[simp] theorem cell_2A (f : Fields) : decodeOpcode 0x2A#8 f = .rolAcc := rfl
@[simp] theorem cell_2B (f : Fields) : decodeOpcode 0x2B#8 f = .pld := rfl
@[simp] theorem cell_2C (f : Fields) : decodeOpcode 0x2C#8 f = .bitAbs f.word := rfl
@[simp] theorem cell_2D (f : Fields) : decodeOpcode 0x2D#8 f = .andAbs f.word := rfl
@[simp] theorem cell_2E (f : Fields) : decodeOpcode 0x2E#8 f = .rolAbs f.word := rfl
@[simp] theorem cell_2F (f : Fields) : decodeOpcode 0x2F#8 f = .andLong f.long := rfl
@[simp] theorem cell_30 (f : Fields) : decodeOpcode 0x30#8 f = .bmi f.b1 := rfl
@[simp] theorem cell_31 (f : Fields) : decodeOpcode 0x31#8 f = .andIDpY f.b1 := rfl
@[simp] theorem cell_32 (f : Fields) : decodeOpcode 0x32#8 f = .andIDp f.b1 := rfl
@[simp] theorem cell_33 (f : Fields) : decodeOpcode 0x33#8 f = .andISrY f.b1 := rfl
@[simp] theorem cell_34 (f : Fields) : decodeOpcode 0x34#8 f = .bitDpX f.b1 := rfl
@[simp] theorem cell_35 (f : Fields) : decodeOpcode 0x35#8 f = .andDpX f.b1 := rfl
@[simp] theorem cell_36 (f : Fields) : decodeOpcode 0x36#8 f = .rolDpX f.b1 := rfl
@[simp] theorem cell_37 (f : Fields) : decodeOpcode 0x37#8 f = .andILDpY f.b1 := rfl
@[simp] theorem cell_38 (f : Fields) : decodeOpcode 0x38#8 f = .sec := rfl
@[simp] theorem cell_39 (f : Fields) : decodeOpcode 0x39#8 f = .andAbsY f.word := rfl
@[simp] theorem cell_3A (f : Fields) : decodeOpcode 0x3A#8 f = .decAcc := rfl
@[simp] theorem cell_3B (f : Fields) : decodeOpcode 0x3B#8 f = .tsc := rfl
@[simp] theorem cell_3C (f : Fields) : decodeOpcode 0x3C#8 f = .bitAbsX f.word := rfl
@[simp] theorem cell_3D (f : Fields) : decodeOpcode 0x3D#8 f = .andAbsX f.word := rfl
@[simp] theorem cell_3E (f : Fields) : decodeOpcode 0x3E#8 f = .rolAbsX f.word := rfl
@[simp] theorem cell_3F (f : Fields) : decodeOpcode 0x3F#8 f = .andLongX f.long := rfl
@[simp] theorem cell_40 (f : Fields) : decodeOpcode 0x40#8 f = .rti := rfl
@[simp] theorem cell_41 (f : Fields) : decodeOpcode 0x41#8 f = .eorIDpX f.b1 := rfl
@[simp] theorem cell_42 (f : Fields) : decodeOpcode 0x42#8 f = .wdm f.b1 := rfl
@[simp] theorem cell_43 (f : Fields) : decodeOpcode 0x43#8 f = .eorSr f.b1 := rfl
@[simp] theorem cell_44 (f : Fields) : decodeOpcode 0x44#8 f = .mvp f.b1 f.b2 := rfl
@[simp] theorem cell_45 (f : Fields) : decodeOpcode 0x45#8 f = .eorDp f.b1 := rfl
@[simp] theorem cell_46 (f : Fields) : decodeOpcode 0x46#8 f = .lsrDp f.b1 := rfl
@[simp] theorem cell_47 (f : Fields) : decodeOpcode 0x47#8 f = .eorILDp f.b1 := rfl
@[simp] theorem cell_48 (f : Fields) : decodeOpcode 0x48#8 f = .pha := rfl
@[simp] theorem cell_49 (f : Fields) : decodeOpcode 0x49#8 f = .eorImm f.immM := rfl
@[simp] theorem cell_4A (f : Fields) : decodeOpcode 0x4A#8 f = .lsrAcc := rfl
@[simp] theorem cell_4B (f : Fields) : decodeOpcode 0x4B#8 f = .phk := rfl
@[simp] theorem cell_4C (f : Fields) : decodeOpcode 0x4C#8 f = .jmpAbs f.word := rfl
@[simp] theorem cell_4D (f : Fields) : decodeOpcode 0x4D#8 f = .eorAbs f.word := rfl
@[simp] theorem cell_4E (f : Fields) : decodeOpcode 0x4E#8 f = .lsrAbs f.word := rfl
@[simp] theorem cell_4F (f : Fields) : decodeOpcode 0x4F#8 f = .eorLong f.long := rfl
@[simp] theorem cell_50 (f : Fields) : decodeOpcode 0x50#8 f = .bvc f.b1 := rfl
@[simp] theorem cell_51 (f : Fields) : decodeOpcode 0x51#8 f = .eorIDpY f.b1 := rfl
@[simp] theorem cell_52 (f : Fields) : decodeOpcode 0x52#8 f = .eorIDp f.b1 := rfl
@[simp] theorem cell_53 (f : Fields) : decodeOpcode 0x53#8 f = .eorISrY f.b1 := rfl
@[simp] theorem cell_54 (f : Fields) : decodeOpcode 0x54#8 f = .mvn f.b1 f.b2 := rfl
@[simp] theorem cell_55 (f : Fields) : decodeOpcode 0x55#8 f = .eorDpX f.b1 := rfl
@[simp] theorem cell_56 (f : Fields) : decodeOpcode 0x56#8 f = .lsrDpX f.b1 := rfl
@[simp] theorem cell_57 (f : Fields) : decodeOpcode 0x57#8 f = .eorILDpY f.b1 := rfl
@[simp] theorem cell_58 (f : Fields) : decodeOpcode 0x58#8 f = .cli := rfl
@[simp] theorem cell_59 (f : Fields) : decodeOpcode 0x59#8 f = .eorAbsY f.word := rfl
@[simp] theorem cell_5A (f : Fields) : decodeOpcode 0x5A#8 f = .phy := rfl
@[simp] theorem cell_5B (f : Fields) : decodeOpcode 0x5B#8 f = .tcd := rfl
@[simp] theorem cell_5C (f : Fields) : decodeOpcode 0x5C#8 f = .jmlLong f.long := rfl
@[simp] theorem cell_5D (f : Fields) : decodeOpcode 0x5D#8 f = .eorAbsX f.word := rfl
@[simp] theorem cell_5E (f : Fields) : decodeOpcode 0x5E#8 f = .lsrAbsX f.word := rfl
@[simp] theorem cell_5F (f : Fields) : decodeOpcode 0x5F#8 f = .eorLongX f.long := rfl
@[simp] theorem cell_60 (f : Fields) : decodeOpcode 0x60#8 f = .rts := rfl
@[simp] theorem cell_61 (f : Fields) : decodeOpcode 0x61#8 f = .adcIDpX f.b1 := rfl
@[simp] theorem cell_62 (f : Fields) : decodeOpcode 0x62#8 f = .per f.word := rfl
@[simp] theorem cell_63 (f : Fields) : decodeOpcode 0x63#8 f = .adcSr f.b1 := rfl
@[simp] theorem cell_64 (f : Fields) : decodeOpcode 0x64#8 f = .stzDp f.b1 := rfl
@[simp] theorem cell_65 (f : Fields) : decodeOpcode 0x65#8 f = .adcDp f.b1 := rfl
@[simp] theorem cell_66 (f : Fields) : decodeOpcode 0x66#8 f = .rorDp f.b1 := rfl
@[simp] theorem cell_67 (f : Fields) : decodeOpcode 0x67#8 f = .adcILDp f.b1 := rfl
@[simp] theorem cell_68 (f : Fields) : decodeOpcode 0x68#8 f = .pla := rfl
@[simp] theorem cell_69 (f : Fields) : decodeOpcode 0x69#8 f = .adcImm f.immM := rfl
@[simp] theorem cell_6A (f : Fields) : decodeOpcode 0x6A#8 f = .rorAcc := rfl
@[simp] theorem cell_6B (f : Fields) : decodeOpcode 0x6B#8 f = .rtl := rfl
@[simp] theorem cell_6C (f : Fields) : decodeOpcode 0x6C#8 f = .jmpIAbs f.word := rfl
@[simp] theorem cell_6D (f : Fields) : decodeOpcode 0x6D#8 f = .adcAbs f.word := rfl
@[simp] theorem cell_6E (f : Fields) : decodeOpcode 0x6E#8 f = .rorAbs f.word := rfl
@[simp] theorem cell_6F (f : Fields) : decodeOpcode 0x6F#8 f = .adcLong f.long := rfl
@[simp] theorem cell_70 (f : Fields) : decodeOpcode 0x70#8 f = .bvs f.b1 := rfl
@[simp] theorem cell_71 (f : Fields) : decodeOpcode 0x71#8 f = .adcIDpY f.b1 := rfl
@[simp] theorem cell_72 (f : Fields) : decodeOpcode 0x72#8 f = .adcIDp f.b1 := rfl
@[simp] theorem cell_73 (f : Fields) : decodeOpcode 0x73#8 f = .adcISrY f.b1 := rfl
@[simp] theorem cell_74 (f : Fields) : decodeOpcode 0x74#8 f = .stzDpX f.b1 := rfl
@[simp] theorem cell_75 (f : Fields) : decodeOpcode 0x75#8 f = .adcDpX f.b1 := rfl
@[simp] theorem cell_76 (f : Fields) : decodeOpcode 0x76#8 f = .rorDpX f.b1 := rfl
@[simp] theorem cell_77 (f : Fields) : decodeOpcode 0x77#8 f = .adcILDpY f.b1 := rfl
@[simp] theorem cell_78 (f : Fields) : decodeOpcode 0x78#8 f = .sei := rfl
@[simp] theorem cell_79 (f : Fields) : decodeOpcode 0x79#8 f = .adcAbsY f.word := rfl
@[simp] theorem cell_7A (f : Fields) : decodeOpcode 0x7A#8 f = .ply := rfl
@[simp] theorem cell_7B (f : Fields) : decodeOpcode 0x7B#8 f = .tdc := rfl
@[simp] theorem cell_7C (f : Fields) : decodeOpcode 0x7C#8 f = .jmpIAbsX f.word := rfl
@[simp] theorem cell_7D (f : Fields) : decodeOpcode 0x7D#8 f = .adcAbsX f.word := rfl
@[simp] theorem cell_7E (f : Fields) : decodeOpcode 0x7E#8 f = .rorAbsX f.word := rfl
@[simp] theorem cell_7F (f : Fields) : decodeOpcode 0x7F#8 f = .adcLongX f.long := rfl
@[simp] theorem cell_80 (f : Fields) : decodeOpcode 0x80#8 f = .bra f.b1 := rfl
@[simp] theorem cell_81 (f : Fields) : decodeOpcode 0x81#8 f = .staIDpX f.b1 := rfl
@[simp] theorem cell_82 (f : Fields) : decodeOpcode 0x82#8 f = .brl f.word := rfl
@[simp] theorem cell_83 (f : Fields) : decodeOpcode 0x83#8 f = .staSr f.b1 := rfl
@[simp] theorem cell_84 (f : Fields) : decodeOpcode 0x84#8 f = .styDp f.b1 := rfl
@[simp] theorem cell_85 (f : Fields) : decodeOpcode 0x85#8 f = .staDp f.b1 := rfl
@[simp] theorem cell_86 (f : Fields) : decodeOpcode 0x86#8 f = .stxDp f.b1 := rfl
@[simp] theorem cell_87 (f : Fields) : decodeOpcode 0x87#8 f = .staILDp f.b1 := rfl
@[simp] theorem cell_88 (f : Fields) : decodeOpcode 0x88#8 f = .dey := rfl
@[simp] theorem cell_89 (f : Fields) : decodeOpcode 0x89#8 f = .bitImm f.immM := rfl
@[simp] theorem cell_8A (f : Fields) : decodeOpcode 0x8A#8 f = .txa := rfl
@[simp] theorem cell_8B (f : Fields) : decodeOpcode 0x8B#8 f = .phb := rfl
@[simp] theorem cell_8C (f : Fields) : decodeOpcode 0x8C#8 f = .styAbs f.word := rfl
@[simp] theorem cell_8D (f : Fields) : decodeOpcode 0x8D#8 f = .staAbs f.word := rfl
@[simp] theorem cell_8E (f : Fields) : decodeOpcode 0x8E#8 f = .stxAbs f.word := rfl
@[simp] theorem cell_8F (f : Fields) : decodeOpcode 0x8F#8 f = .staLong f.long := rfl
@[simp] theorem cell_90 (f : Fields) : decodeOpcode 0x90#8 f = .bcc f.b1 := rfl
@[simp] theorem cell_91 (f : Fields) : decodeOpcode 0x91#8 f = .staIDpY f.b1 := rfl
@[simp] theorem cell_92 (f : Fields) : decodeOpcode 0x92#8 f = .staIDp f.b1 := rfl
@[simp] theorem cell_93 (f : Fields) : decodeOpcode 0x93#8 f = .staISrY f.b1 := rfl
@[simp] theorem cell_94 (f : Fields) : decodeOpcode 0x94#8 f = .styDpX f.b1 := rfl
@[simp] theorem cell_95 (f : Fields) : decodeOpcode 0x95#8 f = .staDpX f.b1 := rfl
@[simp] theorem cell_96 (f : Fields) : decodeOpcode 0x96#8 f = .stxDpY f.b1 := rfl
@[simp] theorem cell_97 (f : Fields) : decodeOpcode 0x97#8 f = .staILDpY f.b1 := rfl
@[simp] theorem cell_98 (f : Fields) : decodeOpcode 0x98#8 f = .tya := rfl
@[simp] theorem cell_99 (f : Fields) : decodeOpcode 0x99#8 f = .staAbsY f.word := rfl
@[simp] theorem cell_9A (f : Fields) : decodeOpcode 0x9A#8 f = .txs := rfl
@[simp] theorem cell_9B (f : Fields) : decodeOpcode 0x9B#8 f = .txy := rfl
@[simp] theorem cell_9C (f : Fields) : decodeOpcode 0x9C#8 f = .stzAbs f.word := rfl
@[simp] theorem cell_9D (f : Fields) : decodeOpcode 0x9D#8 f = .staAbsX f.word := rfl
@[simp] theorem cell_9E (f : Fields) : decodeOpcode 0x9E#8 f = .stzAbsX f.word := rfl
@[simp] theorem cell_9F (f : Fields) : decodeOpcode 0x9F#8 f = .staLongX f.long := rfl
@[simp] theorem cell_A0 (f : Fields) : decodeOpcode 0xA0#8 f = .ldyImm f.immX := rfl
@[simp] theorem cell_A1 (f : Fields) : decodeOpcode 0xA1#8 f = .ldaIDpX f.b1 := rfl
@[simp] theorem cell_A2 (f : Fields) : decodeOpcode 0xA2#8 f = .ldxImm f.immX := rfl
@[simp] theorem cell_A3 (f : Fields) : decodeOpcode 0xA3#8 f = .ldaSr f.b1 := rfl
@[simp] theorem cell_A4 (f : Fields) : decodeOpcode 0xA4#8 f = .ldyDp f.b1 := rfl
@[simp] theorem cell_A5 (f : Fields) : decodeOpcode 0xA5#8 f = .ldaDp f.b1 := rfl
@[simp] theorem cell_A6 (f : Fields) : decodeOpcode 0xA6#8 f = .ldxDp f.b1 := rfl
@[simp] theorem cell_A7 (f : Fields) : decodeOpcode 0xA7#8 f = .ldaILDp f.b1 := rfl
@[simp] theorem cell_A8 (f : Fields) : decodeOpcode 0xA8#8 f = .tay := rfl
@[simp] theorem cell_A9 (f : Fields) : decodeOpcode 0xA9#8 f = .ldaImm f.immM := rfl
@[simp] theorem cell_AA (f : Fields) : decodeOpcode 0xAA#8 f = .tax := rfl
@[simp] theorem cell_AB (f : Fields) : decodeOpcode 0xAB#8 f = .plb := rfl
@[simp] theorem cell_AC (f : Fields) : decodeOpcode 0xAC#8 f = .ldyAbs f.word := rfl
@[simp] theorem cell_AD (f : Fields) : decodeOpcode 0xAD#8 f = .ldaAbs f.word := rfl
@[simp] theorem cell_AE (f : Fields) : decodeOpcode 0xAE#8 f = .ldxAbs f.word := rfl
@[simp] theorem cell_AF (f : Fields) : decodeOpcode 0xAF#8 f = .ldaLong f.long := rfl
@[simp] theorem cell_B0 (f : Fields) : decodeOpcode 0xB0#8 f = .bcs f.b1 := rfl
@[simp] theorem cell_B1 (f : Fields) : decodeOpcode 0xB1#8 f = .ldaIDpY f.b1 := rfl
@[simp] theorem cell_B2 (f : Fields) : decodeOpcode 0xB2#8 f = .ldaIDp f.b1 := rfl
@[simp] theorem cell_B3 (f : Fields) : decodeOpcode 0xB3#8 f = .ldaISrY f.b1 := rfl
@[simp] theorem cell_B4 (f : Fields) : decodeOpcode 0xB4#8 f = .ldyDpX f.b1 := rfl
@[simp] theorem cell_B5 (f : Fields) : decodeOpcode 0xB5#8 f = .ldaDpX f.b1 := rfl
@[simp] theorem cell_B6 (f : Fields) : decodeOpcode 0xB6#8 f = .ldxDpY f.b1 := rfl
@[simp] theorem cell_B7 (f : Fields) : decodeOpcode 0xB7#8 f = .ldaILDpY f.b1 := rfl
@[simp] theorem cell_B8 (f : Fields) : decodeOpcode 0xB8#8 f = .clv := rfl
@[simp] theorem cell_B9 (f : Fields) : decodeOpcode 0xB9#8 f = .ldaAbsY f.word := rfl
@[simp] theorem cell_BA (f : Fields) : decodeOpcode 0xBA#8 f = .tsx := rfl
@[simp] theorem cell_BB (f : Fields) : decodeOpcode 0xBB#8 f = .tyx := rfl
@[simp] theorem cell_BC (f : Fields) : decodeOpcode 0xBC#8 f = .ldyAbsX f.word := rfl
@[simp] theorem cell_BD (f : Fields) : decodeOpcode 0xBD#8 f = .ldaAbsX f.word := rfl
@[simp] theorem cell_BE (f : Fields) : decodeOpcode 0xBE#8 f = .ldxAbsY f.word := rfl
@[simp] theorem cell_BF (f : Fields) : decodeOpcode 0xBF#8 f = .ldaLongX f.long := rfl
@[simp] theorem cell_C0 (f : Fields) : decodeOpcode 0xC0#8 f = .cpyImm f.immX := rfl
@[simp] theorem cell_C1 (f : Fields) : decodeOpcode 0xC1#8 f = .cmpIDpX f.b1 := rfl
@[simp] theorem cell_C2 (f : Fields) : decodeOpcode 0xC2#8 f = .rep f.b1 := rfl
@[simp] theorem cell_C3 (f : Fields) : decodeOpcode 0xC3#8 f = .cmpSr f.b1 := rfl
@[simp] theorem cell_C4 (f : Fields) : decodeOpcode 0xC4#8 f = .cpyDp f.b1 := rfl
@[simp] theorem cell_C5 (f : Fields) : decodeOpcode 0xC5#8 f = .cmpDp f.b1 := rfl
@[simp] theorem cell_C6 (f : Fields) : decodeOpcode 0xC6#8 f = .decDp f.b1 := rfl
@[simp] theorem cell_C7 (f : Fields) : decodeOpcode 0xC7#8 f = .cmpILDp f.b1 := rfl
@[simp] theorem cell_C8 (f : Fields) : decodeOpcode 0xC8#8 f = .iny := rfl
@[simp] theorem cell_C9 (f : Fields) : decodeOpcode 0xC9#8 f = .cmpImm f.immM := rfl
@[simp] theorem cell_CA (f : Fields) : decodeOpcode 0xCA#8 f = .dex := rfl
@[simp] theorem cell_CB (f : Fields) : decodeOpcode 0xCB#8 f = .wai := rfl
@[simp] theorem cell_CC (f : Fields) : decodeOpcode 0xCC#8 f = .cpyAbs f.word := rfl
@[simp] theorem cell_CD (f : Fields) : decodeOpcode 0xCD#8 f = .cmpAbs f.word := rfl
@[simp] theorem cell_CE (f : Fields) : decodeOpcode 0xCE#8 f = .decAbs f.word := rfl
@[simp] theorem cell_CF (f : Fields) : decodeOpcode 0xCF#8 f = .cmpLong f.long := rfl
@[simp] theorem cell_D0 (f : Fields) : decodeOpcode 0xD0#8 f = .bne f.b1 := rfl
@[simp] theorem cell_D1 (f : Fields) : decodeOpcode 0xD1#8 f = .cmpIDpY f.b1 := rfl
@[simp] theorem cell_D2 (f : Fields) : decodeOpcode 0xD2#8 f = .cmpIDp f.b1 := rfl
@[simp] theorem cell_D3 (f : Fields) : decodeOpcode 0xD3#8 f = .cmpISrY f.b1 := rfl
@[simp] theorem cell_D4 (f : Fields) : decodeOpcode 0xD4#8 f = .pei f.b1 := rfl
@[simp] theorem cell_D5 (f : Fields) : decodeOpcode 0xD5#8 f = .cmpDpX f.b1 := rfl
@[simp] theorem cell_D6 (f : Fields) : decodeOpcode 0xD6#8 f = .decDpX f.b1 := rfl
@[simp] theorem cell_D7 (f : Fields) : decodeOpcode 0xD7#8 f = .cmpILDpY f.b1 := rfl
@[simp] theorem cell_D8 (f : Fields) : decodeOpcode 0xD8#8 f = .cld := rfl
@[simp] theorem cell_D9 (f : Fields) : decodeOpcode 0xD9#8 f = .cmpAbsY f.word := rfl
@[simp] theorem cell_DA (f : Fields) : decodeOpcode 0xDA#8 f = .phx := rfl
@[simp] theorem cell_DB (f : Fields) : decodeOpcode 0xDB#8 f = .stp := rfl
@[simp] theorem cell_DC (f : Fields) : decodeOpcode 0xDC#8 f = .jmlILAbs f.word := rfl
@[simp] theorem cell_DD (f : Fields) : decodeOpcode 0xDD#8 f = .cmpAbsX f.word := rfl
@[simp] theorem cell_DE (f : Fields) : decodeOpcode 0xDE#8 f = .decAbsX f.word := rfl
@[simp] theorem cell_DF (f : Fields) : decodeOpcode 0xDF#8 f = .cmpLongX f.long := rfl
@[simp] theorem cell_E0 (f : Fields) : decodeOpcode 0xE0#8 f = .cpxImm f.immX := rfl
@[simp] theorem cell_E1 (f : Fields) : decodeOpcode 0xE1#8 f = .sbcIDpX f.b1 := rfl
@[simp] theorem cell_E2 (f : Fields) : decodeOpcode 0xE2#8 f = .sep f.b1 := rfl
@[simp] theorem cell_E3 (f : Fields) : decodeOpcode 0xE3#8 f = .sbcSr f.b1 := rfl
@[simp] theorem cell_E4 (f : Fields) : decodeOpcode 0xE4#8 f = .cpxDp f.b1 := rfl
@[simp] theorem cell_E5 (f : Fields) : decodeOpcode 0xE5#8 f = .sbcDp f.b1 := rfl
@[simp] theorem cell_E6 (f : Fields) : decodeOpcode 0xE6#8 f = .incDp f.b1 := rfl
@[simp] theorem cell_E7 (f : Fields) : decodeOpcode 0xE7#8 f = .sbcILDp f.b1 := rfl
@[simp] theorem cell_E8 (f : Fields) : decodeOpcode 0xE8#8 f = .inx := rfl
@[simp] theorem cell_E9 (f : Fields) : decodeOpcode 0xE9#8 f = .sbcImm f.immM := rfl
@[simp] theorem cell_EA (f : Fields) : decodeOpcode 0xEA#8 f = .nop := rfl
@[simp] theorem cell_EB (f : Fields) : decodeOpcode 0xEB#8 f = .xba := rfl
@[simp] theorem cell_EC (f : Fields) : decodeOpcode 0xEC#8 f = .cpxAbs f.word := rfl
@[simp] theorem cell_ED (f : Fields) : decodeOpcode 0xED#8 f = .sbcAbs f.word := rfl
@[simp] theorem cell_EE (f : Fields) : decodeOpcode 0xEE#8 f = .incAbs f.word := rfl
@[simp] theorem cell_EF (f : Fields) : decodeOpcode 0xEF#8 f = .sbcLong f.long := rfl
@[simp] theorem cell_F0 (f : Fields) : decodeOpcode 0xF0#8 f = .beq f.b1 := rfl
@[simp] theorem cell_F1 (f : Fields) : decodeOpcode 0xF1#8 f = .sbcIDpY f.b1 := rfl
@[simp] theorem cell_F2 (f : Fields) : decodeOpcode 0xF2#8 f = .sbcIDp f.b1 := rfl
@[simp] theorem cell_F3 (f : Fields) : decodeOpcode 0xF3#8 f = .sbcISrY f.b1 := rfl
@[simp] theorem cell_F4 (f : Fields) : decodeOpcode 0xF4#8 f = .pea f.word := rfl
@[simp] theorem cell_F5 (f : Fields) : decodeOpcode 0xF5#8 f = .sbcDpX f.b1 := rfl
@[simp] theorem cell_F6 (f : Fields) : decodeOpcode 0xF6#8 f = .incDpX f.b1 := rfl
@[simp] theorem cell_F7 (f : Fields) : decodeOpcode 0xF7#8 f = .sbcILDpY f.b1 := rfl
@[simp] theorem cell_F8 (f : Fields) : decodeOpcode 0xF8#8 f = .sed := rfl
@[simp] theorem cell_F9 (f : Fields) : decodeOpcode 0xF9#8 f = .sbcAbsY f.word := rfl
@[simp] theorem cell_FA (f : Fields) : decodeOpcode 0xFA#8 f = .plx := rfl
@[simp] theorem cell_FB (f : Fields) : decodeOpcode 0xFB#8 f = .xce := rfl
@[simp] theorem cell_FC (f : Fields) : decodeOpcode 0xFC#8 f = .jsrIAbsX f.word := rfl
@[simp] theorem cell_FD (f : Fields) : decodeOpcode 0xFD#8 f = .sbcAbsX f.word := rfl
@[simp] theorem cell_FE (f : Fields) : decodeOpcode 0xFE#8 f = .incAbsX f.word := rfl
@[simp] theorem cell_FF (f : Fields) : decodeOpcode 0xFF#8 f = .sbcLongX f.long := rfl

/-- A property of every opcode byte, by number. -/
theorem byte_cases {p : Byte → Prop} (h : ∀ n : Nat, n < 256 → p (BitVec.ofNat 8 n)) (b : Byte) : p b := by
  have := h b.toNat b.isLt
  rwa [BitVec.ofNat_toNat, BitVec.setWidth_eq] at this


/-- The decoder's answer has the opcode it was given. -/
theorem opcode_decodeOpcode (op : Byte) (f : Fields) : (decodeOpcode op f).opcode = op := by
  revert op
  apply byte_cases
  intro n h
  interval_cases n <;> simp [Instr.opcode]

/-- The cell of an instruction's opcode has its mnemonic. -/
theorem mnemonic_of_opcode (i : Instr) (f : Fields) : (decodeOpcode i.opcode f).mnemonic = i.mnemonic := by
  cases i <;> simp [Instr.opcode, Instr.mnemonic]

/-- The cell of an instruction's opcode has its format. -/
theorem format_of_opcode (i : Instr) (f : Fields) : (decodeOpcode i.opcode f).format = i.format := by
  cases i <;> simp [Instr.opcode] <;> rfl

/-- The number of operand bytes, from the cell. -/
theorem operandCount_eq {op : Byte} {m x : Bool} {i : Instr} (h : decodeOpcode op ⟨0, 0, 0, m, x⟩ = i) :
    operandCount op m x = i.operand.format.operandBytes m x :=
  congrArg (fun j : Instr => j.format.operandBytes m x) h

/-- The opcodes of a mnemonic, read off the matrix. -/
theorem hasOpcodes_of (n : Mnemonic) (ops : List Byte)
    (h : ∀ b : Byte, (decodeOpcode b ⟨0, 0, 0, false, false⟩).mnemonic = n ↔ b ∈ ops) : Machine.HasOpcodes n ops := by
  intro i
  rw [← mnemonic_of_opcode]
  exact h i.opcode

end Sys2Proof.Laws
end

