-- ==== Sys2Proof/Laws/PerInstr.lean ====
section
/-! SUPPORT. The family RoundTrip: for each instruction, as syntax, its operand bytes are as many as its opcode asks for under
the width flags it is well-formed for, and the opcode's cell of the matrix, given those bytes, is the instruction. -/

namespace Sys2Proof.Laws

/-- The Statement of the family. -/
def RoundTrip.Statement (i : Instr) : Prop :=
  ∀ (m x : Bool) (rest : List Byte), i.wellFormed m x = true →
    operandCount i.opcode m x = i.operand.bytes.length ∧
      decodeOpcode i.opcode (fieldsOf m x (i.operand.bytes ++ rest)) = i

namespace RoundTrip

theorem brk (sig : Byte) : Statement (.brk sig) :=
  fun _ _ _ _ => ⟨operandCount_eq (cell_00 _), cell_00 _⟩

theorem oraIDpX (dp : Byte) : Statement (.oraIDpX dp) :=
  fun _ _ _ _ => ⟨operandCount_eq (cell_01 _), cell_01 _⟩

theorem cop (sig : Byte) : Statement (.cop sig) :=
  fun _ _ _ _ => ⟨operandCount_eq (cell_02 _), cell_02 _⟩

theorem oraSr (sr : Byte) : Statement (.oraSr sr) :=
  fun _ _ _ _ => ⟨operandCount_eq (cell_03 _), cell_03 _⟩

theorem tsbDp (dp : Byte) : Statement (.tsbDp dp) :=
  fun _ _ _ _ => ⟨operandCount_eq (cell_04 _), cell_04 _⟩

theorem oraDp (dp : Byte) : Statement (.oraDp dp) :=
  fun _ _ _ _ => ⟨operandCount_eq (cell_05 _), cell_05 _⟩

theorem aslDp (dp : Byte) : Statement (.aslDp dp) :=
  fun _ _ _ _ => ⟨operandCount_eq (cell_06 _), cell_06 _⟩

theorem oraILDp (dp : Byte) : Statement (.oraILDp dp) :=
  fun _ _ _ _ => ⟨operandCount_eq (cell_07 _), cell_07 _⟩

theorem php : Statement .php :=
  fun _ _ _ _ => ⟨operandCount_eq (cell_08 _), cell_08 _⟩

theorem oraImm (imm : Imm) : Statement (.oraImm imm) :=
  fun m x rest h => ⟨(operandCount_eq (cell_09 _)).trans (immM_length m x imm (eq_of_beq h)),
    (cell_09 _).trans (congrArg Instr.oraImm (immM_fieldsOf m x imm rest (eq_of_beq h)))⟩

theorem aslAcc : Statement .aslAcc :=
  fun _ _ _ _ => ⟨operandCount_eq (cell_0A _), cell_0A _⟩

theorem phd : Statement .phd :=
  fun _ _ _ _ => ⟨operandCount_eq (cell_0B _), cell_0B _⟩

theorem tsbAbs (addr : Word) : Statement (.tsbAbs addr) :=
  fun m x rest _ => ⟨operandCount_eq (cell_0C _), (cell_0C _).trans (congrArg Instr.tsbAbs (word_fieldsOf m x addr rest))⟩

theorem oraAbs (addr : Word) : Statement (.oraAbs addr) :=
  fun m x rest _ => ⟨operandCount_eq (cell_0D _), (cell_0D _).trans (congrArg Instr.oraAbs (word_fieldsOf m x addr rest))⟩

theorem aslAbs (addr : Word) : Statement (.aslAbs addr) :=
  fun m x rest _ => ⟨operandCount_eq (cell_0E _), (cell_0E _).trans (congrArg Instr.aslAbs (word_fieldsOf m x addr rest))⟩

theorem oraLong (long : Addr) : Statement (.oraLong long) :=
  fun m x rest _ => ⟨operandCount_eq (cell_0F _), (cell_0F _).trans (congrArg Instr.oraLong (long_fieldsOf m x long rest))⟩

theorem bpl (disp : Byte) : Statement (.bpl disp) :=
  fun _ _ _ _ => ⟨operandCount_eq (cell_10 _), cell_10 _⟩

theorem oraIDpY (dp : Byte) : Statement (.oraIDpY dp) :=
  fun _ _ _ _ => ⟨operandCount_eq (cell_11 _), cell_11 _⟩

theorem oraIDp (dp : Byte) : Statement (.oraIDp dp) :=
  fun _ _ _ _ => ⟨operandCount_eq (cell_12 _), cell_12 _⟩

theorem oraISrY (sr : Byte) : Statement (.oraISrY sr) :=
  fun _ _ _ _ => ⟨operandCount_eq (cell_13 _), cell_13 _⟩

theorem trbDp (dp : Byte) : Statement (.trbDp dp) :=
  fun _ _ _ _ => ⟨operandCount_eq (cell_14 _), cell_14 _⟩

theorem oraDpX (dp : Byte) : Statement (.oraDpX dp) :=
  fun _ _ _ _ => ⟨operandCount_eq (cell_15 _), cell_15 _⟩

theorem aslDpX (dp : Byte) : Statement (.aslDpX dp) :=
  fun _ _ _ _ => ⟨operandCount_eq (cell_16 _), cell_16 _⟩

theorem oraILDpY (dp : Byte) : Statement (.oraILDpY dp) :=
  fun _ _ _ _ => ⟨operandCount_eq (cell_17 _), cell_17 _⟩

theorem clc : Statement .clc :=
  fun _ _ _ _ => ⟨operandCount_eq (cell_18 _), cell_18 _⟩

theorem oraAbsY (addr : Word) : Statement (.oraAbsY addr) :=
  fun m x rest _ => ⟨operandCount_eq (cell_19 _), (cell_19 _).trans (congrArg Instr.oraAbsY (word_fieldsOf m x addr rest))⟩

theorem incAcc : Statement .incAcc :=
  fun _ _ _ _ => ⟨operandCount_eq (cell_1A _), cell_1A _⟩

theorem tcs : Statement .tcs :=
  fun _ _ _ _ => ⟨operandCount_eq (cell_1B _), cell_1B _⟩

theorem trbAbs (addr : Word) : Statement (.trbAbs addr) :=
  fun m x rest _ => ⟨operandCount_eq (cell_1C _), (cell_1C _).trans (congrArg Instr.trbAbs (word_fieldsOf m x addr rest))⟩

theorem oraAbsX (addr : Word) : Statement (.oraAbsX addr) :=
  fun m x rest _ => ⟨operandCount_eq (cell_1D _), (cell_1D _).trans (congrArg Instr.oraAbsX (word_fieldsOf m x addr rest))⟩

theorem aslAbsX (addr : Word) : Statement (.aslAbsX addr) :=
  fun m x rest _ => ⟨operandCount_eq (cell_1E _), (cell_1E _).trans (congrArg Instr.aslAbsX (word_fieldsOf m x addr rest))⟩

theorem oraLongX (long : Addr) : Statement (.oraLongX long) :=
  fun m x rest _ => ⟨operandCount_eq (cell_1F _), (cell_1F _).trans (congrArg Instr.oraLongX (long_fieldsOf m x long rest))⟩

theorem jsrAbs (addr : Word) : Statement (.jsrAbs addr) :=
  fun m x rest _ => ⟨operandCount_eq (cell_20 _), (cell_20 _).trans (congrArg Instr.jsrAbs (word_fieldsOf m x addr rest))⟩

theorem andIDpX (dp : Byte) : Statement (.andIDpX dp) :=
  fun _ _ _ _ => ⟨operandCount_eq (cell_21 _), cell_21 _⟩

theorem jsl (long : Addr) : Statement (.jsl long) :=
  fun m x rest _ => ⟨operandCount_eq (cell_22 _), (cell_22 _).trans (congrArg Instr.jsl (long_fieldsOf m x long rest))⟩

theorem andSr (sr : Byte) : Statement (.andSr sr) :=
  fun _ _ _ _ => ⟨operandCount_eq (cell_23 _), cell_23 _⟩

theorem bitDp (dp : Byte) : Statement (.bitDp dp) :=
  fun _ _ _ _ => ⟨operandCount_eq (cell_24 _), cell_24 _⟩

theorem andDp (dp : Byte) : Statement (.andDp dp) :=
  fun _ _ _ _ => ⟨operandCount_eq (cell_25 _), cell_25 _⟩

theorem rolDp (dp : Byte) : Statement (.rolDp dp) :=
  fun _ _ _ _ => ⟨operandCount_eq (cell_26 _), cell_26 _⟩

theorem andILDp (dp : Byte) : Statement (.andILDp dp) :=
  fun _ _ _ _ => ⟨operandCount_eq (cell_27 _), cell_27 _⟩

theorem plp : Statement .plp :=
  fun _ _ _ _ => ⟨operandCount_eq (cell_28 _), cell_28 _⟩

theorem andImm (imm : Imm) : Statement (.andImm imm) :=
  fun m x rest h => ⟨(operandCount_eq (cell_29 _)).trans (immM_length m x imm (eq_of_beq h)),
    (cell_29 _).trans (congrArg Instr.andImm (immM_fieldsOf m x imm rest (eq_of_beq h)))⟩

theorem rolAcc : Statement .rolAcc :=
  fun _ _ _ _ => ⟨operandCount_eq (cell_2A _), cell_2A _⟩

theorem pld : Statement .pld :=
  fun _ _ _ _ => ⟨operandCount_eq (cell_2B _), cell_2B _⟩

theorem bitAbs (addr : Word) : Statement (.bitAbs addr) :=
  fun m x rest _ => ⟨operandCount_eq (cell_2C _), (cell_2C _).trans (congrArg Instr.bitAbs (word_fieldsOf m x addr rest))⟩

theorem andAbs (addr : Word) : Statement (.andAbs addr) :=
  fun m x rest _ => ⟨operandCount_eq (cell_2D _), (cell_2D _).trans (congrArg Instr.andAbs (word_fieldsOf m x addr rest))⟩

theorem rolAbs (addr : Word) : Statement (.rolAbs addr) :=
  fun m x rest _ => ⟨operandCount_eq (cell_2E _), (cell_2E _).trans (congrArg Instr.rolAbs (word_fieldsOf m x addr rest))⟩

theorem andLong (long : Addr) : Statement (.andLong long) :=
  fun m x rest _ => ⟨operandCount_eq (cell_2F _), (cell_2F _).trans (congrArg Instr.andLong (long_fieldsOf m x long rest))⟩

theorem bmi (disp : Byte) : Statement (.bmi disp) :=
  fun _ _ _ _ => ⟨operandCount_eq (cell_30 _), cell_30 _⟩

theorem andIDpY (dp : Byte) : Statement (.andIDpY dp) :=
  fun _ _ _ _ => ⟨operandCount_eq (cell_31 _), cell_31 _⟩

theorem andIDp (dp : Byte) : Statement (.andIDp dp) :=
  fun _ _ _ _ => ⟨operandCount_eq (cell_32 _), cell_32 _⟩

theorem andISrY (sr : Byte) : Statement (.andISrY sr) :=
  fun _ _ _ _ => ⟨operandCount_eq (cell_33 _), cell_33 _⟩

theorem bitDpX (dp : Byte) : Statement (.bitDpX dp) :=
  fun _ _ _ _ => ⟨operandCount_eq (cell_34 _), cell_34 _⟩

theorem andDpX (dp : Byte) : Statement (.andDpX dp) :=
  fun _ _ _ _ => ⟨operandCount_eq (cell_35 _), cell_35 _⟩

theorem rolDpX (dp : Byte) : Statement (.rolDpX dp) :=
  fun _ _ _ _ => ⟨operandCount_eq (cell_36 _), cell_36 _⟩

theorem andILDpY (dp : Byte) : Statement (.andILDpY dp) :=
  fun _ _ _ _ => ⟨operandCount_eq (cell_37 _), cell_37 _⟩

theorem sec : Statement .sec :=
  fun _ _ _ _ => ⟨operandCount_eq (cell_38 _), cell_38 _⟩

theorem andAbsY (addr : Word) : Statement (.andAbsY addr) :=
  fun m x rest _ => ⟨operandCount_eq (cell_39 _), (cell_39 _).trans (congrArg Instr.andAbsY (word_fieldsOf m x addr rest))⟩

theorem decAcc : Statement .decAcc :=
  fun _ _ _ _ => ⟨operandCount_eq (cell_3A _), cell_3A _⟩

theorem tsc : Statement .tsc :=
  fun _ _ _ _ => ⟨operandCount_eq (cell_3B _), cell_3B _⟩

theorem bitAbsX (addr : Word) : Statement (.bitAbsX addr) :=
  fun m x rest _ => ⟨operandCount_eq (cell_3C _), (cell_3C _).trans (congrArg Instr.bitAbsX (word_fieldsOf m x addr rest))⟩

theorem andAbsX (addr : Word) : Statement (.andAbsX addr) :=
  fun m x rest _ => ⟨operandCount_eq (cell_3D _), (cell_3D _).trans (congrArg Instr.andAbsX (word_fieldsOf m x addr rest))⟩

theorem rolAbsX (addr : Word) : Statement (.rolAbsX addr) :=
  fun m x rest _ => ⟨operandCount_eq (cell_3E _), (cell_3E _).trans (congrArg Instr.rolAbsX (word_fieldsOf m x addr rest))⟩

theorem andLongX (long : Addr) : Statement (.andLongX long) :=
  fun m x rest _ => ⟨operandCount_eq (cell_3F _), (cell_3F _).trans (congrArg Instr.andLongX (long_fieldsOf m x long rest))⟩

theorem rti : Statement .rti :=
  fun _ _ _ _ => ⟨operandCount_eq (cell_40 _), cell_40 _⟩

theorem eorIDpX (dp : Byte) : Statement (.eorIDpX dp) :=
  fun _ _ _ _ => ⟨operandCount_eq (cell_41 _), cell_41 _⟩

theorem wdm (sig : Byte) : Statement (.wdm sig) :=
  fun _ _ _ _ => ⟨operandCount_eq (cell_42 _), cell_42 _⟩

theorem eorSr (sr : Byte) : Statement (.eorSr sr) :=
  fun _ _ _ _ => ⟨operandCount_eq (cell_43 _), cell_43 _⟩

theorem mvp (dst : Byte) (src : Byte) : Statement (.mvp dst src) :=
  fun _ _ _ _ => ⟨operandCount_eq (cell_44 _), cell_44 _⟩

theorem eorDp (dp : Byte) : Statement (.eorDp dp) :=
  fun _ _ _ _ => ⟨operandCount_eq (cell_45 _), cell_45 _⟩

theorem lsrDp (dp : Byte) : Statement (.lsrDp dp) :=
  fun _ _ _ _ => ⟨operandCount_eq (cell_46 _), cell_46 _⟩

theorem eorILDp (dp : Byte) : Statement (.eorILDp dp) :=
  fun _ _ _ _ => ⟨operandCount_eq (cell_47 _), cell_47 _⟩

theorem pha : Statement .pha :=
  fun _ _ _ _ => ⟨operandCount_eq (cell_48 _), cell_48 _⟩

theorem eorImm (imm : Imm) : Statement (.eorImm imm) :=
  fun m x rest h => ⟨(operandCount_eq (cell_49 _)).trans (immM_length m x imm (eq_of_beq h)),
    (cell_49 _).trans (congrArg Instr.eorImm (immM_fieldsOf m x imm rest (eq_of_beq h)))⟩

theorem lsrAcc : Statement .lsrAcc :=
  fun _ _ _ _ => ⟨operandCount_eq (cell_4A _), cell_4A _⟩

theorem phk : Statement .phk :=
  fun _ _ _ _ => ⟨operandCount_eq (cell_4B _), cell_4B _⟩

theorem jmpAbs (addr : Word) : Statement (.jmpAbs addr) :=
  fun m x rest _ => ⟨operandCount_eq (cell_4C _), (cell_4C _).trans (congrArg Instr.jmpAbs (word_fieldsOf m x addr rest))⟩

theorem eorAbs (addr : Word) : Statement (.eorAbs addr) :=
  fun m x rest _ => ⟨operandCount_eq (cell_4D _), (cell_4D _).trans (congrArg Instr.eorAbs (word_fieldsOf m x addr rest))⟩

theorem lsrAbs (addr : Word) : Statement (.lsrAbs addr) :=
  fun m x rest _ => ⟨operandCount_eq (cell_4E _), (cell_4E _).trans (congrArg Instr.lsrAbs (word_fieldsOf m x addr rest))⟩

theorem eorLong (long : Addr) : Statement (.eorLong long) :=
  fun m x rest _ => ⟨operandCount_eq (cell_4F _), (cell_4F _).trans (congrArg Instr.eorLong (long_fieldsOf m x long rest))⟩

theorem bvc (disp : Byte) : Statement (.bvc disp) :=
  fun _ _ _ _ => ⟨operandCount_eq (cell_50 _), cell_50 _⟩

theorem eorIDpY (dp : Byte) : Statement (.eorIDpY dp) :=
  fun _ _ _ _ => ⟨operandCount_eq (cell_51 _), cell_51 _⟩

theorem eorIDp (dp : Byte) : Statement (.eorIDp dp) :=
  fun _ _ _ _ => ⟨operandCount_eq (cell_52 _), cell_52 _⟩

theorem eorISrY (sr : Byte) : Statement (.eorISrY sr) :=
  fun _ _ _ _ => ⟨operandCount_eq (cell_53 _), cell_53 _⟩

theorem mvn (dst : Byte) (src : Byte) : Statement (.mvn dst src) :=
  fun _ _ _ _ => ⟨operandCount_eq (cell_54 _), cell_54 _⟩

theorem eorDpX (dp : Byte) : Statement (.eorDpX dp) :=
  fun _ _ _ _ => ⟨operandCount_eq (cell_55 _), cell_55 _⟩

theorem lsrDpX (dp : Byte) : Statement (.lsrDpX dp) :=
  fun _ _ _ _ => ⟨operandCount_eq (cell_56 _), cell_56 _⟩

theorem eorILDpY (dp : Byte) : Statement (.eorILDpY dp) :=
  fun _ _ _ _ => ⟨operandCount_eq (cell_57 _), cell_57 _⟩

theorem cli : Statement .cli :=
  fun _ _ _ _ => ⟨operandCount_eq (cell_58 _), cell_58 _⟩

theorem eorAbsY (addr : Word) : Statement (.eorAbsY addr) :=
  fun m x rest _ => ⟨operandCount_eq (cell_59 _), (cell_59 _).trans (congrArg Instr.eorAbsY (word_fieldsOf m x addr rest))⟩

theorem phy : Statement .phy :=
  fun _ _ _ _ => ⟨operandCount_eq (cell_5A _), cell_5A _⟩

theorem tcd : Statement .tcd :=
  fun _ _ _ _ => ⟨operandCount_eq (cell_5B _), cell_5B _⟩

theorem jmlLong (long : Addr) : Statement (.jmlLong long) :=
  fun m x rest _ => ⟨operandCount_eq (cell_5C _), (cell_5C _).trans (congrArg Instr.jmlLong (long_fieldsOf m x long rest))⟩

theorem eorAbsX (addr : Word) : Statement (.eorAbsX addr) :=
  fun m x rest _ => ⟨operandCount_eq (cell_5D _), (cell_5D _).trans (congrArg Instr.eorAbsX (word_fieldsOf m x addr rest))⟩

theorem lsrAbsX (addr : Word) : Statement (.lsrAbsX addr) :=
  fun m x rest _ => ⟨operandCount_eq (cell_5E _), (cell_5E _).trans (congrArg Instr.lsrAbsX (word_fieldsOf m x addr rest))⟩

theorem eorLongX (long : Addr) : Statement (.eorLongX long) :=
  fun m x rest _ => ⟨operandCount_eq (cell_5F _), (cell_5F _).trans (congrArg Instr.eorLongX (long_fieldsOf m x long rest))⟩

theorem rts : Statement .rts :=
  fun _ _ _ _ => ⟨operandCount_eq (cell_60 _), cell_60 _⟩

theorem adcIDpX (dp : Byte) : Statement (.adcIDpX dp) :=
  fun _ _ _ _ => ⟨operandCount_eq (cell_61 _), cell_61 _⟩

theorem per (disp : Word) : Statement (.per disp) :=
  fun m x rest _ => ⟨operandCount_eq (cell_62 _), (cell_62 _).trans (congrArg Instr.per (word_fieldsOf m x disp rest))⟩

theorem adcSr (sr : Byte) : Statement (.adcSr sr) :=
  fun _ _ _ _ => ⟨operandCount_eq (cell_63 _), cell_63 _⟩

theorem stzDp (dp : Byte) : Statement (.stzDp dp) :=
  fun _ _ _ _ => ⟨operandCount_eq (cell_64 _), cell_64 _⟩

theorem adcDp (dp : Byte) : Statement (.adcDp dp) :=
  fun _ _ _ _ => ⟨operandCount_eq (cell_65 _), cell_65 _⟩

theorem rorDp (dp : Byte) : Statement (.rorDp dp) :=
  fun _ _ _ _ => ⟨operandCount_eq (cell_66 _), cell_66 _⟩

theorem adcILDp (dp : Byte) : Statement (.adcILDp dp) :=
  fun _ _ _ _ => ⟨operandCount_eq (cell_67 _), cell_67 _⟩

theorem pla : Statement .pla :=
  fun _ _ _ _ => ⟨operandCount_eq (cell_68 _), cell_68 _⟩

theorem adcImm (imm : Imm) : Statement (.adcImm imm) :=
  fun m x rest h => ⟨(operandCount_eq (cell_69 _)).trans (immM_length m x imm (eq_of_beq h)),
    (cell_69 _).trans (congrArg Instr.adcImm (immM_fieldsOf m x imm rest (eq_of_beq h)))⟩

theorem rorAcc : Statement .rorAcc :=
  fun _ _ _ _ => ⟨operandCount_eq (cell_6A _), cell_6A _⟩

theorem rtl : Statement .rtl :=
  fun _ _ _ _ => ⟨operandCount_eq (cell_6B _), cell_6B _⟩

theorem jmpIAbs (addr : Word) : Statement (.jmpIAbs addr) :=
  fun m x rest _ => ⟨operandCount_eq (cell_6C _), (cell_6C _).trans (congrArg Instr.jmpIAbs (word_fieldsOf m x addr rest))⟩

theorem adcAbs (addr : Word) : Statement (.adcAbs addr) :=
  fun m x rest _ => ⟨operandCount_eq (cell_6D _), (cell_6D _).trans (congrArg Instr.adcAbs (word_fieldsOf m x addr rest))⟩

theorem rorAbs (addr : Word) : Statement (.rorAbs addr) :=
  fun m x rest _ => ⟨operandCount_eq (cell_6E _), (cell_6E _).trans (congrArg Instr.rorAbs (word_fieldsOf m x addr rest))⟩

theorem adcLong (long : Addr) : Statement (.adcLong long) :=
  fun m x rest _ => ⟨operandCount_eq (cell_6F _), (cell_6F _).trans (congrArg Instr.adcLong (long_fieldsOf m x long rest))⟩

theorem bvs (disp : Byte) : Statement (.bvs disp) :=
  fun _ _ _ _ => ⟨operandCount_eq (cell_70 _), cell_70 _⟩

theorem adcIDpY (dp : Byte) : Statement (.adcIDpY dp) :=
  fun _ _ _ _ => ⟨operandCount_eq (cell_71 _), cell_71 _⟩

theorem adcIDp (dp : Byte) : Statement (.adcIDp dp) :=
  fun _ _ _ _ => ⟨operandCount_eq (cell_72 _), cell_72 _⟩

theorem adcISrY (sr : Byte) : Statement (.adcISrY sr) :=
  fun _ _ _ _ => ⟨operandCount_eq (cell_73 _), cell_73 _⟩

theorem stzDpX (dp : Byte) : Statement (.stzDpX dp) :=
  fun _ _ _ _ => ⟨operandCount_eq (cell_74 _), cell_74 _⟩

theorem adcDpX (dp : Byte) : Statement (.adcDpX dp) :=
  fun _ _ _ _ => ⟨operandCount_eq (cell_75 _), cell_75 _⟩

theorem rorDpX (dp : Byte) : Statement (.rorDpX dp) :=
  fun _ _ _ _ => ⟨operandCount_eq (cell_76 _), cell_76 _⟩

theorem adcILDpY (dp : Byte) : Statement (.adcILDpY dp) :=
  fun _ _ _ _ => ⟨operandCount_eq (cell_77 _), cell_77 _⟩

theorem sei : Statement .sei :=
  fun _ _ _ _ => ⟨operandCount_eq (cell_78 _), cell_78 _⟩

theorem adcAbsY (addr : Word) : Statement (.adcAbsY addr) :=
  fun m x rest _ => ⟨operandCount_eq (cell_79 _), (cell_79 _).trans (congrArg Instr.adcAbsY (word_fieldsOf m x addr rest))⟩

theorem ply : Statement .ply :=
  fun _ _ _ _ => ⟨operandCount_eq (cell_7A _), cell_7A _⟩

theorem tdc : Statement .tdc :=
  fun _ _ _ _ => ⟨operandCount_eq (cell_7B _), cell_7B _⟩

theorem jmpIAbsX (addr : Word) : Statement (.jmpIAbsX addr) :=
  fun m x rest _ => ⟨operandCount_eq (cell_7C _), (cell_7C _).trans (congrArg Instr.jmpIAbsX (word_fieldsOf m x addr rest))⟩

theorem adcAbsX (addr : Word) : Statement (.adcAbsX addr) :=
  fun m x rest _ => ⟨operandCount_eq (cell_7D _), (cell_7D _).trans (congrArg Instr.adcAbsX (word_fieldsOf m x addr rest))⟩

theorem rorAbsX (addr : Word) : Statement (.rorAbsX addr) :=
  fun m x rest _ => ⟨operandCount_eq (cell_7E _), (cell_7E _).trans (congrArg Instr.rorAbsX (word_fieldsOf m x addr rest))⟩

theorem adcLongX (long : Addr) : Statement (.adcLongX long) :=
  fun m x rest _ => ⟨operandCount_eq (cell_7F _), (cell_7F _).trans (congrArg Instr.adcLongX (long_fieldsOf m x long rest))⟩

theorem bra (disp : Byte) : Statement (.bra disp) :=
  fun _ _ _ _ => ⟨operandCount_eq (cell_80 _), cell_80 _⟩

theorem staIDpX (dp : Byte) : Statement (.staIDpX dp) :=
  fun _ _ _ _ => ⟨operandCount_eq (cell_81 _), cell_81 _⟩

theorem brl (disp : Word) : Statement (.brl disp) :=
  fun m x rest _ => ⟨operandCount_eq (cell_82 _), (cell_82 _).trans (congrArg Instr.brl (word_fieldsOf m x disp rest))⟩

theorem staSr (sr : Byte) : Statement (.staSr sr) :=
  fun _ _ _ _ => ⟨operandCount_eq (cell_83 _), cell_83 _⟩

theorem styDp (dp : Byte) : Statement (.styDp dp) :=
  fun _ _ _ _ => ⟨operandCount_eq (cell_84 _), cell_84 _⟩

theorem staDp (dp : Byte) : Statement (.staDp dp) :=
  fun _ _ _ _ => ⟨operandCount_eq (cell_85 _), cell_85 _⟩

theorem stxDp (dp : Byte) : Statement (.stxDp dp) :=
  fun _ _ _ _ => ⟨operandCount_eq (cell_86 _), cell_86 _⟩

theorem staILDp (dp : Byte) : Statement (.staILDp dp) :=
  fun _ _ _ _ => ⟨operandCount_eq (cell_87 _), cell_87 _⟩

theorem dey : Statement .dey :=
  fun _ _ _ _ => ⟨operandCount_eq (cell_88 _), cell_88 _⟩

theorem bitImm (imm : Imm) : Statement (.bitImm imm) :=
  fun m x rest h => ⟨(operandCount_eq (cell_89 _)).trans (immM_length m x imm (eq_of_beq h)),
    (cell_89 _).trans (congrArg Instr.bitImm (immM_fieldsOf m x imm rest (eq_of_beq h)))⟩

theorem txa : Statement .txa :=
  fun _ _ _ _ => ⟨operandCount_eq (cell_8A _), cell_8A _⟩

theorem phb : Statement .phb :=
  fun _ _ _ _ => ⟨operandCount_eq (cell_8B _), cell_8B _⟩

theorem styAbs (addr : Word) : Statement (.styAbs addr) :=
  fun m x rest _ => ⟨operandCount_eq (cell_8C _), (cell_8C _).trans (congrArg Instr.styAbs (word_fieldsOf m x addr rest))⟩

theorem staAbs (addr : Word) : Statement (.staAbs addr) :=
  fun m x rest _ => ⟨operandCount_eq (cell_8D _), (cell_8D _).trans (congrArg Instr.staAbs (word_fieldsOf m x addr rest))⟩

theorem stxAbs (addr : Word) : Statement (.stxAbs addr) :=
  fun m x rest _ => ⟨operandCount_eq (cell_8E _), (cell_8E _).trans (congrArg Instr.stxAbs (word_fieldsOf m x addr rest))⟩

theorem staLong (long : Addr) : Statement (.staLong long) :=
  fun m x rest _ => ⟨operandCount_eq (cell_8F _), (cell_8F _).trans (congrArg Instr.staLong (long_fieldsOf m x long rest))⟩

theorem bcc (disp : Byte) : Statement (.bcc disp) :=
  fun _ _ _ _ => ⟨operandCount_eq (cell_90 _), cell_90 _⟩

theorem staIDpY (dp : Byte) : Statement (.staIDpY dp) :=
  fun _ _ _ _ => ⟨operandCount_eq (cell_91 _), cell_91 _⟩

theorem staIDp (dp : Byte) : Statement (.staIDp dp) :=
  fun _ _ _ _ => ⟨operandCount_eq (cell_92 _), cell_92 _⟩

theorem staISrY (sr : Byte) : Statement (.staISrY sr) :=
  fun _ _ _ _ => ⟨operandCount_eq (cell_93 _), cell_93 _⟩

theorem styDpX (dp : Byte) : Statement (.styDpX dp) :=
  fun _ _ _ _ => ⟨operandCount_eq (cell_94 _), cell_94 _⟩

theorem staDpX (dp : Byte) : Statement (.staDpX dp) :=
  fun _ _ _ _ => ⟨operandCount_eq (cell_95 _), cell_95 _⟩

theorem stxDpY (dp : Byte) : Statement (.stxDpY dp) :=
  fun _ _ _ _ => ⟨operandCount_eq (cell_96 _), cell_96 _⟩

theorem staILDpY (dp : Byte) : Statement (.staILDpY dp) :=
  fun _ _ _ _ => ⟨operandCount_eq (cell_97 _), cell_97 _⟩

theorem tya : Statement .tya :=
  fun _ _ _ _ => ⟨operandCount_eq (cell_98 _), cell_98 _⟩

theorem staAbsY (addr : Word) : Statement (.staAbsY addr) :=
  fun m x rest _ => ⟨operandCount_eq (cell_99 _), (cell_99 _).trans (congrArg Instr.staAbsY (word_fieldsOf m x addr rest))⟩

theorem txs : Statement .txs :=
  fun _ _ _ _ => ⟨operandCount_eq (cell_9A _), cell_9A _⟩

theorem txy : Statement .txy :=
  fun _ _ _ _ => ⟨operandCount_eq (cell_9B _), cell_9B _⟩

theorem stzAbs (addr : Word) : Statement (.stzAbs addr) :=
  fun m x rest _ => ⟨operandCount_eq (cell_9C _), (cell_9C _).trans (congrArg Instr.stzAbs (word_fieldsOf m x addr rest))⟩

theorem staAbsX (addr : Word) : Statement (.staAbsX addr) :=
  fun m x rest _ => ⟨operandCount_eq (cell_9D _), (cell_9D _).trans (congrArg Instr.staAbsX (word_fieldsOf m x addr rest))⟩

theorem stzAbsX (addr : Word) : Statement (.stzAbsX addr) :=
  fun m x rest _ => ⟨operandCount_eq (cell_9E _), (cell_9E _).trans (congrArg Instr.stzAbsX (word_fieldsOf m x addr rest))⟩

theorem staLongX (long : Addr) : Statement (.staLongX long) :=
  fun m x rest _ => ⟨operandCount_eq (cell_9F _), (cell_9F _).trans (congrArg Instr.staLongX (long_fieldsOf m x long rest))⟩

theorem ldyImm (imm : Imm) : Statement (.ldyImm imm) :=
  fun m x rest h => ⟨(operandCount_eq (cell_A0 _)).trans (immX_length m x imm (eq_of_beq h)),
    (cell_A0 _).trans (congrArg Instr.ldyImm (immX_fieldsOf m x imm rest (eq_of_beq h)))⟩

theorem ldaIDpX (dp : Byte) : Statement (.ldaIDpX dp) :=
  fun _ _ _ _ => ⟨operandCount_eq (cell_A1 _), cell_A1 _⟩

theorem ldxImm (imm : Imm) : Statement (.ldxImm imm) :=
  fun m x rest h => ⟨(operandCount_eq (cell_A2 _)).trans (immX_length m x imm (eq_of_beq h)),
    (cell_A2 _).trans (congrArg Instr.ldxImm (immX_fieldsOf m x imm rest (eq_of_beq h)))⟩

theorem ldaSr (sr : Byte) : Statement (.ldaSr sr) :=
  fun _ _ _ _ => ⟨operandCount_eq (cell_A3 _), cell_A3 _⟩

theorem ldyDp (dp : Byte) : Statement (.ldyDp dp) :=
  fun _ _ _ _ => ⟨operandCount_eq (cell_A4 _), cell_A4 _⟩

theorem ldaDp (dp : Byte) : Statement (.ldaDp dp) :=
  fun _ _ _ _ => ⟨operandCount_eq (cell_A5 _), cell_A5 _⟩

theorem ldxDp (dp : Byte) : Statement (.ldxDp dp) :=
  fun _ _ _ _ => ⟨operandCount_eq (cell_A6 _), cell_A6 _⟩

theorem ldaILDp (dp : Byte) : Statement (.ldaILDp dp) :=
  fun _ _ _ _ => ⟨operandCount_eq (cell_A7 _), cell_A7 _⟩

theorem tay : Statement .tay :=
  fun _ _ _ _ => ⟨operandCount_eq (cell_A8 _), cell_A8 _⟩

theorem ldaImm (imm : Imm) : Statement (.ldaImm imm) :=
  fun m x rest h => ⟨(operandCount_eq (cell_A9 _)).trans (immM_length m x imm (eq_of_beq h)),
    (cell_A9 _).trans (congrArg Instr.ldaImm (immM_fieldsOf m x imm rest (eq_of_beq h)))⟩

theorem tax : Statement .tax :=
  fun _ _ _ _ => ⟨operandCount_eq (cell_AA _), cell_AA _⟩

theorem plb : Statement .plb :=
  fun _ _ _ _ => ⟨operandCount_eq (cell_AB _), cell_AB _⟩

theorem ldyAbs (addr : Word) : Statement (.ldyAbs addr) :=
  fun m x rest _ => ⟨operandCount_eq (cell_AC _), (cell_AC _).trans (congrArg Instr.ldyAbs (word_fieldsOf m x addr rest))⟩

theorem ldaAbs (addr : Word) : Statement (.ldaAbs addr) :=
  fun m x rest _ => ⟨operandCount_eq (cell_AD _), (cell_AD _).trans (congrArg Instr.ldaAbs (word_fieldsOf m x addr rest))⟩

theorem ldxAbs (addr : Word) : Statement (.ldxAbs addr) :=
  fun m x rest _ => ⟨operandCount_eq (cell_AE _), (cell_AE _).trans (congrArg Instr.ldxAbs (word_fieldsOf m x addr rest))⟩

theorem ldaLong (long : Addr) : Statement (.ldaLong long) :=
  fun m x rest _ => ⟨operandCount_eq (cell_AF _), (cell_AF _).trans (congrArg Instr.ldaLong (long_fieldsOf m x long rest))⟩

theorem bcs (disp : Byte) : Statement (.bcs disp) :=
  fun _ _ _ _ => ⟨operandCount_eq (cell_B0 _), cell_B0 _⟩

theorem ldaIDpY (dp : Byte) : Statement (.ldaIDpY dp) :=
  fun _ _ _ _ => ⟨operandCount_eq (cell_B1 _), cell_B1 _⟩

theorem ldaIDp (dp : Byte) : Statement (.ldaIDp dp) :=
  fun _ _ _ _ => ⟨operandCount_eq (cell_B2 _), cell_B2 _⟩

theorem ldaISrY (sr : Byte) : Statement (.ldaISrY sr) :=
  fun _ _ _ _ => ⟨operandCount_eq (cell_B3 _), cell_B3 _⟩

theorem ldyDpX (dp : Byte) : Statement (.ldyDpX dp) :=
  fun _ _ _ _ => ⟨operandCount_eq (cell_B4 _), cell_B4 _⟩

theorem ldaDpX (dp : Byte) : Statement (.ldaDpX dp) :=
  fun _ _ _ _ => ⟨operandCount_eq (cell_B5 _), cell_B5 _⟩

theorem ldxDpY (dp : Byte) : Statement (.ldxDpY dp) :=
  fun _ _ _ _ => ⟨operandCount_eq (cell_B6 _), cell_B6 _⟩

theorem ldaILDpY (dp : Byte) : Statement (.ldaILDpY dp) :=
  fun _ _ _ _ => ⟨operandCount_eq (cell_B7 _), cell_B7 _⟩

theorem clv : Statement .clv :=
  fun _ _ _ _ => ⟨operandCount_eq (cell_B8 _), cell_B8 _⟩

theorem ldaAbsY (addr : Word) : Statement (.ldaAbsY addr) :=
  fun m x rest _ => ⟨operandCount_eq (cell_B9 _), (cell_B9 _).trans (congrArg Instr.ldaAbsY (word_fieldsOf m x addr rest))⟩

theorem tsx : Statement .tsx :=
  fun _ _ _ _ => ⟨operandCount_eq (cell_BA _), cell_BA _⟩

theorem tyx : Statement .tyx :=
  fun _ _ _ _ => ⟨operandCount_eq (cell_BB _), cell_BB _⟩

theorem ldyAbsX (addr : Word) : Statement (.ldyAbsX addr) :=
  fun m x rest _ => ⟨operandCount_eq (cell_BC _), (cell_BC _).trans (congrArg Instr.ldyAbsX (word_fieldsOf m x addr rest))⟩

theorem ldaAbsX (addr : Word) : Statement (.ldaAbsX addr) :=
  fun m x rest _ => ⟨operandCount_eq (cell_BD _), (cell_BD _).trans (congrArg Instr.ldaAbsX (word_fieldsOf m x addr rest))⟩

theorem ldxAbsY (addr : Word) : Statement (.ldxAbsY addr) :=
  fun m x rest _ => ⟨operandCount_eq (cell_BE _), (cell_BE _).trans (congrArg Instr.ldxAbsY (word_fieldsOf m x addr rest))⟩

theorem ldaLongX (long : Addr) : Statement (.ldaLongX long) :=
  fun m x rest _ => ⟨operandCount_eq (cell_BF _), (cell_BF _).trans (congrArg Instr.ldaLongX (long_fieldsOf m x long rest))⟩

theorem cpyImm (imm : Imm) : Statement (.cpyImm imm) :=
  fun m x rest h => ⟨(operandCount_eq (cell_C0 _)).trans (immX_length m x imm (eq_of_beq h)),
    (cell_C0 _).trans (congrArg Instr.cpyImm (immX_fieldsOf m x imm rest (eq_of_beq h)))⟩

theorem cmpIDpX (dp : Byte) : Statement (.cmpIDpX dp) :=
  fun _ _ _ _ => ⟨operandCount_eq (cell_C1 _), cell_C1 _⟩

theorem rep (mask : Byte) : Statement (.rep mask) :=
  fun _ _ _ _ => ⟨operandCount_eq (cell_C2 _), cell_C2 _⟩

theorem cmpSr (sr : Byte) : Statement (.cmpSr sr) :=
  fun _ _ _ _ => ⟨operandCount_eq (cell_C3 _), cell_C3 _⟩

theorem cpyDp (dp : Byte) : Statement (.cpyDp dp) :=
  fun _ _ _ _ => ⟨operandCount_eq (cell_C4 _), cell_C4 _⟩

theorem cmpDp (dp : Byte) : Statement (.cmpDp dp) :=
  fun _ _ _ _ => ⟨operandCount_eq (cell_C5 _), cell_C5 _⟩

theorem decDp (dp : Byte) : Statement (.decDp dp) :=
  fun _ _ _ _ => ⟨operandCount_eq (cell_C6 _), cell_C6 _⟩

theorem cmpILDp (dp : Byte) : Statement (.cmpILDp dp) :=
  fun _ _ _ _ => ⟨operandCount_eq (cell_C7 _), cell_C7 _⟩

theorem iny : Statement .iny :=
  fun _ _ _ _ => ⟨operandCount_eq (cell_C8 _), cell_C8 _⟩

theorem cmpImm (imm : Imm) : Statement (.cmpImm imm) :=
  fun m x rest h => ⟨(operandCount_eq (cell_C9 _)).trans (immM_length m x imm (eq_of_beq h)),
    (cell_C9 _).trans (congrArg Instr.cmpImm (immM_fieldsOf m x imm rest (eq_of_beq h)))⟩

theorem dex : Statement .dex :=
  fun _ _ _ _ => ⟨operandCount_eq (cell_CA _), cell_CA _⟩

theorem wai : Statement .wai :=
  fun _ _ _ _ => ⟨operandCount_eq (cell_CB _), cell_CB _⟩

theorem cpyAbs (addr : Word) : Statement (.cpyAbs addr) :=
  fun m x rest _ => ⟨operandCount_eq (cell_CC _), (cell_CC _).trans (congrArg Instr.cpyAbs (word_fieldsOf m x addr rest))⟩

theorem cmpAbs (addr : Word) : Statement (.cmpAbs addr) :=
  fun m x rest _ => ⟨operandCount_eq (cell_CD _), (cell_CD _).trans (congrArg Instr.cmpAbs (word_fieldsOf m x addr rest))⟩

theorem decAbs (addr : Word) : Statement (.decAbs addr) :=
  fun m x rest _ => ⟨operandCount_eq (cell_CE _), (cell_CE _).trans (congrArg Instr.decAbs (word_fieldsOf m x addr rest))⟩

theorem cmpLong (long : Addr) : Statement (.cmpLong long) :=
  fun m x rest _ => ⟨operandCount_eq (cell_CF _), (cell_CF _).trans (congrArg Instr.cmpLong (long_fieldsOf m x long rest))⟩

theorem bne (disp : Byte) : Statement (.bne disp) :=
  fun _ _ _ _ => ⟨operandCount_eq (cell_D0 _), cell_D0 _⟩

theorem cmpIDpY (dp : Byte) : Statement (.cmpIDpY dp) :=
  fun _ _ _ _ => ⟨operandCount_eq (cell_D1 _), cell_D1 _⟩

theorem cmpIDp (dp : Byte) : Statement (.cmpIDp dp) :=
  fun _ _ _ _ => ⟨operandCount_eq (cell_D2 _), cell_D2 _⟩

theorem cmpISrY (sr : Byte) : Statement (.cmpISrY sr) :=
  fun _ _ _ _ => ⟨operandCount_eq (cell_D3 _), cell_D3 _⟩

theorem pei (dp : Byte) : Statement (.pei dp) :=
  fun _ _ _ _ => ⟨operandCount_eq (cell_D4 _), cell_D4 _⟩

theorem cmpDpX (dp : Byte) : Statement (.cmpDpX dp) :=
  fun _ _ _ _ => ⟨operandCount_eq (cell_D5 _), cell_D5 _⟩

theorem decDpX (dp : Byte) : Statement (.decDpX dp) :=
  fun _ _ _ _ => ⟨operandCount_eq (cell_D6 _), cell_D6 _⟩

theorem cmpILDpY (dp : Byte) : Statement (.cmpILDpY dp) :=
  fun _ _ _ _ => ⟨operandCount_eq (cell_D7 _), cell_D7 _⟩

theorem cld : Statement .cld :=
  fun _ _ _ _ => ⟨operandCount_eq (cell_D8 _), cell_D8 _⟩

theorem cmpAbsY (addr : Word) : Statement (.cmpAbsY addr) :=
  fun m x rest _ => ⟨operandCount_eq (cell_D9 _), (cell_D9 _).trans (congrArg Instr.cmpAbsY (word_fieldsOf m x addr rest))⟩

theorem phx : Statement .phx :=
  fun _ _ _ _ => ⟨operandCount_eq (cell_DA _), cell_DA _⟩

theorem stp : Statement .stp :=
  fun _ _ _ _ => ⟨operandCount_eq (cell_DB _), cell_DB _⟩

theorem jmlILAbs (addr : Word) : Statement (.jmlILAbs addr) :=
  fun m x rest _ => ⟨operandCount_eq (cell_DC _), (cell_DC _).trans (congrArg Instr.jmlILAbs (word_fieldsOf m x addr rest))⟩

theorem cmpAbsX (addr : Word) : Statement (.cmpAbsX addr) :=
  fun m x rest _ => ⟨operandCount_eq (cell_DD _), (cell_DD _).trans (congrArg Instr.cmpAbsX (word_fieldsOf m x addr rest))⟩

theorem decAbsX (addr : Word) : Statement (.decAbsX addr) :=
  fun m x rest _ => ⟨operandCount_eq (cell_DE _), (cell_DE _).trans (congrArg Instr.decAbsX (word_fieldsOf m x addr rest))⟩

theorem cmpLongX (long : Addr) : Statement (.cmpLongX long) :=
  fun m x rest _ => ⟨operandCount_eq (cell_DF _), (cell_DF _).trans (congrArg Instr.cmpLongX (long_fieldsOf m x long rest))⟩

theorem cpxImm (imm : Imm) : Statement (.cpxImm imm) :=
  fun m x rest h => ⟨(operandCount_eq (cell_E0 _)).trans (immX_length m x imm (eq_of_beq h)),
    (cell_E0 _).trans (congrArg Instr.cpxImm (immX_fieldsOf m x imm rest (eq_of_beq h)))⟩

theorem sbcIDpX (dp : Byte) : Statement (.sbcIDpX dp) :=
  fun _ _ _ _ => ⟨operandCount_eq (cell_E1 _), cell_E1 _⟩

theorem sep (mask : Byte) : Statement (.sep mask) :=
  fun _ _ _ _ => ⟨operandCount_eq (cell_E2 _), cell_E2 _⟩

theorem sbcSr (sr : Byte) : Statement (.sbcSr sr) :=
  fun _ _ _ _ => ⟨operandCount_eq (cell_E3 _), cell_E3 _⟩

theorem cpxDp (dp : Byte) : Statement (.cpxDp dp) :=
  fun _ _ _ _ => ⟨operandCount_eq (cell_E4 _), cell_E4 _⟩

theorem sbcDp (dp : Byte) : Statement (.sbcDp dp) :=
  fun _ _ _ _ => ⟨operandCount_eq (cell_E5 _), cell_E5 _⟩

theorem incDp (dp : Byte) : Statement (.incDp dp) :=
  fun _ _ _ _ => ⟨operandCount_eq (cell_E6 _), cell_E6 _⟩

theorem sbcILDp (dp : Byte) : Statement (.sbcILDp dp) :=
  fun _ _ _ _ => ⟨operandCount_eq (cell_E7 _), cell_E7 _⟩

theorem inx : Statement .inx :=
  fun _ _ _ _ => ⟨operandCount_eq (cell_E8 _), cell_E8 _⟩

theorem sbcImm (imm : Imm) : Statement (.sbcImm imm) :=
  fun m x rest h => ⟨(operandCount_eq (cell_E9 _)).trans (immM_length m x imm (eq_of_beq h)),
    (cell_E9 _).trans (congrArg Instr.sbcImm (immM_fieldsOf m x imm rest (eq_of_beq h)))⟩

theorem nop : Statement .nop :=
  fun _ _ _ _ => ⟨operandCount_eq (cell_EA _), cell_EA _⟩

theorem xba : Statement .xba :=
  fun _ _ _ _ => ⟨operandCount_eq (cell_EB _), cell_EB _⟩

theorem cpxAbs (addr : Word) : Statement (.cpxAbs addr) :=
  fun m x rest _ => ⟨operandCount_eq (cell_EC _), (cell_EC _).trans (congrArg Instr.cpxAbs (word_fieldsOf m x addr rest))⟩

theorem sbcAbs (addr : Word) : Statement (.sbcAbs addr) :=
  fun m x rest _ => ⟨operandCount_eq (cell_ED _), (cell_ED _).trans (congrArg Instr.sbcAbs (word_fieldsOf m x addr rest))⟩

theorem incAbs (addr : Word) : Statement (.incAbs addr) :=
  fun m x rest _ => ⟨operandCount_eq (cell_EE _), (cell_EE _).trans (congrArg Instr.incAbs (word_fieldsOf m x addr rest))⟩

theorem sbcLong (long : Addr) : Statement (.sbcLong long) :=
  fun m x rest _ => ⟨operandCount_eq (cell_EF _), (cell_EF _).trans (congrArg Instr.sbcLong (long_fieldsOf m x long rest))⟩

theorem beq (disp : Byte) : Statement (.beq disp) :=
  fun _ _ _ _ => ⟨operandCount_eq (cell_F0 _), cell_F0 _⟩

theorem sbcIDpY (dp : Byte) : Statement (.sbcIDpY dp) :=
  fun _ _ _ _ => ⟨operandCount_eq (cell_F1 _), cell_F1 _⟩

theorem sbcIDp (dp : Byte) : Statement (.sbcIDp dp) :=
  fun _ _ _ _ => ⟨operandCount_eq (cell_F2 _), cell_F2 _⟩

theorem sbcISrY (sr : Byte) : Statement (.sbcISrY sr) :=
  fun _ _ _ _ => ⟨operandCount_eq (cell_F3 _), cell_F3 _⟩

theorem pea (value : Word) : Statement (.pea value) :=
  fun m x rest _ => ⟨operandCount_eq (cell_F4 _), (cell_F4 _).trans (congrArg Instr.pea (word_fieldsOf m x value rest))⟩

theorem sbcDpX (dp : Byte) : Statement (.sbcDpX dp) :=
  fun _ _ _ _ => ⟨operandCount_eq (cell_F5 _), cell_F5 _⟩

theorem incDpX (dp : Byte) : Statement (.incDpX dp) :=
  fun _ _ _ _ => ⟨operandCount_eq (cell_F6 _), cell_F6 _⟩

theorem sbcILDpY (dp : Byte) : Statement (.sbcILDpY dp) :=
  fun _ _ _ _ => ⟨operandCount_eq (cell_F7 _), cell_F7 _⟩

theorem sed : Statement .sed :=
  fun _ _ _ _ => ⟨operandCount_eq (cell_F8 _), cell_F8 _⟩

theorem sbcAbsY (addr : Word) : Statement (.sbcAbsY addr) :=
  fun m x rest _ => ⟨operandCount_eq (cell_F9 _), (cell_F9 _).trans (congrArg Instr.sbcAbsY (word_fieldsOf m x addr rest))⟩

theorem plx : Statement .plx :=
  fun _ _ _ _ => ⟨operandCount_eq (cell_FA _), cell_FA _⟩

theorem xce : Statement .xce :=
  fun _ _ _ _ => ⟨operandCount_eq (cell_FB _), cell_FB _⟩

theorem jsrIAbsX (addr : Word) : Statement (.jsrIAbsX addr) :=
  fun m x rest _ => ⟨operandCount_eq (cell_FC _), (cell_FC _).trans (congrArg Instr.jsrIAbsX (word_fieldsOf m x addr rest))⟩

theorem sbcAbsX (addr : Word) : Statement (.sbcAbsX addr) :=
  fun m x rest _ => ⟨operandCount_eq (cell_FD _), (cell_FD _).trans (congrArg Instr.sbcAbsX (word_fieldsOf m x addr rest))⟩

theorem incAbsX (addr : Word) : Statement (.incAbsX addr) :=
  fun m x rest _ => ⟨operandCount_eq (cell_FE _), (cell_FE _).trans (congrArg Instr.incAbsX (word_fieldsOf m x addr rest))⟩

theorem sbcLongX (long : Addr) : Statement (.sbcLongX long) :=
  fun m x rest _ => ⟨operandCount_eq (cell_FF _), (cell_FF _).trans (congrArg Instr.sbcLongX (long_fieldsOf m x long rest))⟩

end RoundTrip

end Sys2Proof.Laws
end

