-- ==== Sys2Proof/Laws/Reads.lean ====
section
/-! SUPPORT. The reads of the port in order (20_memory.md R62, R64, R74): what a list of reads leaves alone, what it answers,
and that each multi-byte read is such a list, ascending. -/

namespace Sys2Proof.Machine

@[simp] theorem State.afterReads_A (s : State) (l : List Addr) : (s.afterReads l).A = s.A := by
  induction l generalizing s with
  | nil => rfl
  | cons a l ih => exact ih _

@[simp] theorem State.afterReads_X (s : State) (l : List Addr) : (s.afterReads l).X = s.X := by
  induction l generalizing s with
  | nil => rfl
  | cons a l ih => exact ih _

@[simp] theorem State.afterReads_Y (s : State) (l : List Addr) : (s.afterReads l).Y = s.Y := by
  induction l generalizing s with
  | nil => rfl
  | cons a l ih => exact ih _

@[simp] theorem State.afterReads_SP (s : State) (l : List Addr) : (s.afterReads l).SP = s.SP := by
  induction l generalizing s with
  | nil => rfl
  | cons a l ih => exact ih _

@[simp] theorem State.afterReads_PC (s : State) (l : List Addr) : (s.afterReads l).PC = s.PC := by
  induction l generalizing s with
  | nil => rfl
  | cons a l ih => exact ih _

@[simp] theorem State.afterReads_PBR (s : State) (l : List Addr) : (s.afterReads l).PBR = s.PBR := by
  induction l generalizing s with
  | nil => rfl
  | cons a l ih => exact ih _

@[simp] theorem State.afterReads_DBR (s : State) (l : List Addr) : (s.afterReads l).DBR = s.DBR := by
  induction l generalizing s with
  | nil => rfl
  | cons a l ih => exact ih _

@[simp] theorem State.afterReads_D (s : State) (l : List Addr) : (s.afterReads l).D = s.D := by
  induction l generalizing s with
  | nil => rfl
  | cons a l ih => exact ih _

@[simp] theorem State.afterReads_P (s : State) (l : List Addr) : (s.afterReads l).P = s.P := by
  induction l generalizing s with
  | nil => rfl
  | cons a l ih => exact ih _

@[simp] theorem State.afterReads_E (s : State) (l : List Addr) : (s.afterReads l).E = s.E := by
  induction l generalizing s with
  | nil => rfl
  | cons a l ih => exact ih _

@[simp] theorem State.afterReads_waiting (s : State) (l : List Addr) : (s.afterReads l).waiting = s.waiting := by
  induction l generalizing s with
  | nil => rfl
  | cons a l ih => exact ih _

@[simp] theorem State.afterReads_stopped (s : State) (l : List Addr) : (s.afterReads l).stopped = s.stopped := by
  induction l generalizing s with
  | nil => rfl
  | cons a l ih => exact ih _

@[simp] theorem State.afterReads_mv (s : State) (l : List Addr) : (s.afterReads l).mv = s.mv := by
  induction l generalizing s with
  | nil => rfl
  | cons a l ih => exact ih _

@[simp] theorem State.afterReads_nmiPending (s : State) (l : List Addr) : (s.afterReads l).nmiPending = s.nmiPending := by
  induction l generalizing s with
  | nil => rfl
  | cons a l ih => exact ih _

@[simp] theorem State.afterReads_irqPending (s : State) (l : List Addr) : (s.afterReads l).irqPending = s.irqPending := by
  induction l generalizing s with
  | nil => rfl
  | cons a l ih => exact ih _

@[simp] theorem State.afterReads_mem (s : State) (l : List Addr) : (s.afterReads l).mem = s.mem := by
  induction l generalizing s with
  | nil => rfl
  | cons a l ih => exact ih _

/-- Nothing but the port's side of a read differs. -/
theorem State.afterReads_portOnly (s : State) (l : List Addr) : PortOnly s (s.afterReads l) := by
  induction l generalizing s with
  | nil => rfl
  | cons a l ih => exact ih _

theorem State.afterReads_append (s : State) (l k : List Addr) : s.afterReads (l ++ k) = (s.afterReads l).afterReads k := by
  induction l generalizing s with
  | nil => rfl
  | cons a l ih => exact ih _

theorem State.answers_append (s : State) (l k : List Addr) : s.answers (l ++ k) = s.answers l ++ (s.afterReads l).answers k := by
  induction l generalizing s with
  | nil => rfl
  | cons a l ih => exact congrArg (s.answer a :: ·) (ih _)

@[simp] theorem State.answers_length (s : State) (l : List Addr) : (s.answers l).length = l.length := by
  induction l generalizing s with
  | nil => rfl
  | cons a l ih => exact congrArg (· + 1) (ih _)

/-! ## Reads of several bytes -/

theorem inBank0_addr (o : Word) : (inBank0 o).addr = mkAddr 0 o := rfl

@[simp] theorem EffAddr.next_wrap (b : Byte) (o : Word) : (EffAddr.mk (mkAddr b o) .wrap).next = ⟨mkAddr b (o + 1), .wrap⟩ := by
  simp [EffAddr.next]

@[simp] theorem inBank0_next (o : Word) : (inBank0 o).next = inBank0 (o + 1) :=
  EffAddr.next_wrap _ _

theorem State.read8_afterReads (s : State) (ea : EffAddr) : (s.read8 ea).2 = s.afterReads [ea.addr] := rfl

theorem State.read16_afterReads (s : State) (ea : EffAddr) : (s.read16 ea).2 = s.afterReads [ea.addr, ea.next.addr] := rfl

theorem State.read24_afterReads (s : State) (ea : EffAddr) :
    (s.read24 ea).2 = s.afterReads [ea.addr, ea.next.addr, ea.next.next.addr] := rfl

/-- Both halves of a 16-bit read: what was answered, and the state after (R62, R64). -/
theorem State.read16_eq (s : State) (ea : EffAddr) :
    s.read16 ea =
      (mkWord ((s.afterReads [ea.addr]).answer ea.next.addr) (s.answer ea.addr), s.afterReads [ea.addr, ea.next.addr]) := rfl

theorem State.answers_pair (s : State) (a b : Addr) : s.answers [a, b] = [s.answer a, (s.afterReads [a]).answer b] := rfl

theorem littleEndian_pair (l h : Byte) : littleEndian [l, h] = (mkWord h l).toNat := by
  rw [toNat_mkWord]
  simp only [littleEndian]
  omega

theorem State.read16_toNat (s : State) (ea : EffAddr) :
    (s.read16 ea).1.toNat = littleEndian (s.answers [ea.addr, ea.next.addr]) :=
  (littleEndian_pair _ _).symm

end Sys2Proof.Machine
end

