-- ==== Sys2Proof/Laws/Stack.lean ====
section
/-! SUPPORT. The spec lemmas of the stack and interrupt operations (20_memory.md R68 to R71, 60_exceptions.md R388), in the
terms of Safety.lean, and that the operations keep the invariant of 10_state.md R36. -/

namespace Sys2Proof.Machine

/-! ## Stores and the value they leave -/

theorem HoldsValue.of_mem {s t : State} {ea : EffAddr} {w : Width} {v : Word} (h : t.mem = (s.writeOp ea w v).mem) :
    HoldsValue ea w v s t := by
  have hr : ∀ a, t.ram a = (s.writeOp ea w v).ram a := fun a => by simp [State.ram, h]
  refine ⟨fun a ha => (hr a).trans (s.writeOp_frame ea w v a ha),
    fun hw => ⟨h ▸ s.writeOp_wf ea w v hw, (hr _).trans (s.writeOp_low ea w v hw), ?_⟩⟩
  rintro rfl
  exact (hr _).trans (s.writeOp_high ea v hw)

/-- What a store at a memory form does (R164 to R167). -/
theorem State.storeAt_storesAt (s : State) (mode : DataMode) (w : Width) (v : Word) : StoresAt mode w v s (s.storeAt mode w v) := by
  refine ⟨s.storeAt_storeOnly mode w v, HoldsValue.of_mem ?_, ?_, ?_⟩ <;> rw [State.storeAt_eq]

/-! ## Pushes and pulls -/

theorem Pushes.append {s t u : State} : ∀ {l k : List Byte}, Pushes l s t → Pushes k t u → Pushes (l ++ k) s u
  | [], _, h, hk => by rw [show t = s from h] at hk; exact hk
  | _ :: _, _, ⟨m, h1, h2, h3⟩, hk => ⟨m, h1, h2, Pushes.append h3 hk⟩

theorem State.push8_pushes (s : State) (b : Byte) : Pushes [b] s (s.push8 b) := by
  refine ⟨s.push8 b, rfl, HoldsValue.of_mem ?_, rfl⟩
  simp only [State.writeOp, lo8_zeroExtend]
  rfl

theorem State.push16_pushes (s : State) (v : Word) : Pushes [hi8 v, lo8 v] s (s.push16 v) :=
  Pushes.append (l := [hi8 v]) (s.push8_pushes _) (State.push8_pushes _ _)

/-- The frame of an interrupt (60_exceptions.md R388). -/
theorem State.pushFrame_pushes (s : State) (kind : InterruptKind) :
    Pushes ((if s.E then [] else [s.PBR]) ++ [hi8 s.PC, lo8 s.PC, pushedStatus kind s.E s.P]) s (s.pushFrame kind) := by
  unfold State.pushFrame
  split
  · exact Pushes.append (l := [hi8 s.PC, lo8 s.PC]) (s.push16_pushes _) (State.push8_pushes _ _)
  · exact Pushes.append (l := [s.PBR]) (s.push8_pushes _)
      (Pushes.append (l := [hi8 s.PC, lo8 s.PC]) (State.push16_pushes _ _) (State.push8_pushes _ _))

theorem State.pull8_pulls (s : State) : Pulls [s.pull8.1] s s.pull8.2 :=
  ⟨rfl, rfl⟩

theorem State.pull16_pulls (s : State) : Pulls [s.pull8.1, s.pull8.2.pull8.1] s s.pull16.2 :=
  ⟨rfl, rfl, rfl⟩

theorem State.pull16_value (s : State) : s.pull16.1 = mkWord s.pull8.2.pull8.1 s.pull8.1 := rfl

/-- The entry of an interrupt: the frame, then the vector, read after the pushes (60_exceptions.md R388). -/
theorem State.takeInterrupt_eq (s : State) (kind : InterruptKind) :
    s.takeInterrupt kind =
      { s.pushFrame kind with
        P := handlerStatus s.P
        PBR := 0x00
        PC := ((s.pushFrame kind).read16 (inBank0 (vector kind s.E))).1
        script := ((s.pushFrame kind).read16 (inBank0 (vector kind s.E))).2.script
        trace := ((s.pushFrame kind).read16 (inBank0 (vector kind s.E))).2.trace } := by
  have h : (s.pushFrame kind).P = s.P := by
    unfold State.pushFrame
    split <;> rfl
  rw [← h]
  rfl

/-! ## The invariant -/

/-- A state with the same registers that the invariant reads, and canonical memory, keeps it. -/
theorem State.Inv.of_same {s t : State} (h : s.Inv) (hE : t.E = s.E) (hP : t.P = s.P) (hSP : t.SP = s.SP) (hX : t.X = s.X)
    (hY : t.Y = s.Y) (hA : t.A = s.A) (hmv : t.mv = s.mv) (hm : t.mem.wf = true) : t.Inv := by
  constructor
  · intro e
    have := h.emulation (hE ▸ e)
    simpa only [State.flag, hP, hSP] using this
  · intro x
    have := h.index (by simpa only [State.flag, hP] using x)
    rwa [hX, hY]
  · intro m
    rw [hA]
    exact h.move (hmv ▸ m)
  · exact hm

/-- Reads keep it. -/
theorem State.Inv.of_portOnly {s t : State} (h : s.Inv) (hp : PortOnly s t) : t.Inv := by
  rw [hp]
  exact h.of_same rfl rfl rfl rfl rfl rfl rfl h.memory

/-- Stores keep it where memory stays canonical. -/
theorem State.Inv.of_storeOnly {s t : State} (h : s.Inv) (hp : StoreOnly s t) (hm : t.mem.wf = true) : t.Inv := by
  rw [hp]
  exact h.of_same rfl rfl rfl rfl rfl rfl rfl hm

/-- A status byte that keeps M and X keeps it. -/
theorem State.Inv.withP {s : State} (h : s.Inv) (p : Byte) (hM : getFlag p .M = s.flag .M) (hX : getFlag p .X = s.flag .X) :
    (s.withP p).Inv := by
  constructor
  · intro e
    have := h.emulation e
    exact ⟨hM.trans this.1, hX.trans this.2.1, this.2.2⟩
  · intro x
    exact h.index (hX.symm.trans x)
  · exact h.move
  · exact h.memory

end Sys2Proof.Machine
end

