-- ==== Sys2Proof/Tests/Slice0.lean ====
section
/-! SUPPORT. Tests. Expected values come from the spec: the encodings of 30_encoding.md R92, R93, R96, the vectors of
95_test_vectors.md (named by their numbers), and the rules cited; the last part shows a state and operands that meet the
hypotheses of each obligation. -/

namespace Sys2Proof.Tests

open Sys2Proof.Machine

/-! ## WellFormed refuses each ill-formed operand -/

theorem test_wf_refuses_two_bytes_when_M : (Instr.ldaImm (.b16 0x1234)).wellFormed true true = false := by decide
theorem test_wf_refuses_one_byte_when_not_M : (Instr.ldaImm (.b8 0x12)).wellFormed false true = false := by decide
theorem test_wf_refuses_two_bytes_when_X : (Instr.ldxImm (.b16 0x1234)).wellFormed true true = false := by decide
theorem test_wf_refuses_one_byte_when_not_X : (Instr.cpyImm (.b8 0x12)).wellFormed true false = false := by decide
theorem test_wf_accepts_the_others : (Instr.ldaImm (.b8 0x12)).wellFormed true false = true ∧
    (Instr.ldxImm (.b16 0x1234)).wellFormed true false = true ∧ Instr.nop.wellFormed true true = true := by decide

/-! ## Decoding: every cell of the matrix with operand bytes `12 34 56` (R92, R93, R96), under `P.M = P.X = 1` -/

/-- The decoder reads `i` from an opcode and operand bytes, and uses up all of them. -/
def reads (m x : Bool) (op : Byte) (operand : List Byte) (i : Instr) : Bool :=
  match decode m x (op :: operand) with
  | .ok (j, []) => decide (j = i)
  | _ => false

theorem test_decode_row_0x :
    (reads true true 0x00 [0x12] (.brk 0x12) && reads true true 0x01 [0x12] (.oraIDpX 0x12) &&
      reads true true 0x02 [0x12] (.cop 0x12) && reads true true 0x03 [0x12] (.oraSr 0x12) &&
      reads true true 0x04 [0x12] (.tsbDp 0x12) && reads true true 0x05 [0x12] (.oraDp 0x12) &&
      reads true true 0x06 [0x12] (.aslDp 0x12) && reads true true 0x07 [0x12] (.oraILDp 0x12) &&
      reads true true 0x08 [] .php && reads true true 0x09 [0x12] (.oraImm (.b8 0x12)) &&
      reads true true 0x0A [] .aslAcc && reads true true 0x0B [] .phd &&
      reads true true 0x0C [0x12, 0x34] (.tsbAbs 0x3412) && reads true true 0x0D [0x12, 0x34] (.oraAbs 0x3412) &&
      reads true true 0x0E [0x12, 0x34] (.aslAbs 0x3412) && reads true true 0x0F [0x12, 0x34, 0x56] (.oraLong 0x563412)) = true := by decide

theorem test_decode_row_1x :
    (reads true true 0x10 [0x12] (.bpl 0x12) && reads true true 0x11 [0x12] (.oraIDpY 0x12) &&
      reads true true 0x12 [0x12] (.oraIDp 0x12) && reads true true 0x13 [0x12] (.oraISrY 0x12) &&
      reads true true 0x14 [0x12] (.trbDp 0x12) && reads true true 0x15 [0x12] (.oraDpX 0x12) &&
      reads true true 0x16 [0x12] (.aslDpX 0x12) && reads true true 0x17 [0x12] (.oraILDpY 0x12) &&
      reads true true 0x18 [] .clc && reads true true 0x19 [0x12, 0x34] (.oraAbsY 0x3412) &&
      reads true true 0x1A [] .incAcc && reads true true 0x1B [] .tcs &&
      reads true true 0x1C [0x12, 0x34] (.trbAbs 0x3412) && reads true true 0x1D [0x12, 0x34] (.oraAbsX 0x3412) &&
      reads true true 0x1E [0x12, 0x34] (.aslAbsX 0x3412) && reads true true 0x1F [0x12, 0x34, 0x56] (.oraLongX 0x563412)) = true := by decide

theorem test_decode_row_2x :
    (reads true true 0x20 [0x12, 0x34] (.jsrAbs 0x3412) && reads true true 0x21 [0x12] (.andIDpX 0x12) &&
      reads true true 0x22 [0x12, 0x34, 0x56] (.jsl 0x563412) && reads true true 0x23 [0x12] (.andSr 0x12) &&
      reads true true 0x24 [0x12] (.bitDp 0x12) && reads true true 0x25 [0x12] (.andDp 0x12) &&
      reads true true 0x26 [0x12] (.rolDp 0x12) && reads true true 0x27 [0x12] (.andILDp 0x12) &&
      reads true true 0x28 [] .plp && reads true true 0x29 [0x12] (.andImm (.b8 0x12)) &&
      reads true true 0x2A [] .rolAcc && reads true true 0x2B [] .pld &&
      reads true true 0x2C [0x12, 0x34] (.bitAbs 0x3412) && reads true true 0x2D [0x12, 0x34] (.andAbs 0x3412) &&
      reads true true 0x2E [0x12, 0x34] (.rolAbs 0x3412) && reads true true 0x2F [0x12, 0x34, 0x56] (.andLong 0x563412)) = true := by decide

theorem test_decode_row_3x :
    (reads true true 0x30 [0x12] (.bmi 0x12) && reads true true 0x31 [0x12] (.andIDpY 0x12) &&
      reads true true 0x32 [0x12] (.andIDp 0x12) && reads true true 0x33 [0x12] (.andISrY 0x12) &&
      reads true true 0x34 [0x12] (.bitDpX 0x12) && reads true true 0x35 [0x12] (.andDpX 0x12) &&
      reads true true 0x36 [0x12] (.rolDpX 0x12) && reads true true 0x37 [0x12] (.andILDpY 0x12) &&
      reads true true 0x38 [] .sec && reads true true 0x39 [0x12, 0x34] (.andAbsY 0x3412) &&
      reads true true 0x3A [] .decAcc && reads true true 0x3B [] .tsc &&
      reads true true 0x3C [0x12, 0x34] (.bitAbsX 0x3412) && reads true true 0x3D [0x12, 0x34] (.andAbsX 0x3412) &&
      reads true true 0x3E [0x12, 0x34] (.rolAbsX 0x3412) && reads true true 0x3F [0x12, 0x34, 0x56] (.andLongX 0x563412)) = true := by decide

theorem test_decode_row_4x :
    (reads true true 0x40 [] .rti && reads true true 0x41 [0x12] (.eorIDpX 0x12) &&
      reads true true 0x42 [0x12] (.wdm 0x12) && reads true true 0x43 [0x12] (.eorSr 0x12) &&
      reads true true 0x44 [0x12, 0x34] (.mvp 0x12 0x34) && reads true true 0x45 [0x12] (.eorDp 0x12) &&
      reads true true 0x46 [0x12] (.lsrDp 0x12) && reads true true 0x47 [0x12] (.eorILDp 0x12) &&
      reads true true 0x48 [] .pha && reads true true 0x49 [0x12] (.eorImm (.b8 0x12)) &&
      reads true true 0x4A [] .lsrAcc && reads true true 0x4B [] .phk &&
      reads true true 0x4C [0x12, 0x34] (.jmpAbs 0x3412) && reads true true 0x4D [0x12, 0x34] (.eorAbs 0x3412) &&
      reads true true 0x4E [0x12, 0x34] (.lsrAbs 0x3412) && reads true true 0x4F [0x12, 0x34, 0x56] (.eorLong 0x563412)) = true := by decide

theorem test_decode_row_5x :
    (reads true true 0x50 [0x12] (.bvc 0x12) && reads true true 0x51 [0x12] (.eorIDpY 0x12) &&
      reads true true 0x52 [0x12] (.eorIDp 0x12) && reads true true 0x53 [0x12] (.eorISrY 0x12) &&
      reads true true 0x54 [0x12, 0x34] (.mvn 0x12 0x34) && reads true true 0x55 [0x12] (.eorDpX 0x12) &&
      reads true true 0x56 [0x12] (.lsrDpX 0x12) && reads true true 0x57 [0x12] (.eorILDpY 0x12) &&
      reads true true 0x58 [] .cli && reads true true 0x59 [0x12, 0x34] (.eorAbsY 0x3412) &&
      reads true true 0x5A [] .phy && reads true true 0x5B [] .tcd &&
      reads true true 0x5C [0x12, 0x34, 0x56] (.jmlLong 0x563412) && reads true true 0x5D [0x12, 0x34] (.eorAbsX 0x3412) &&
      reads true true 0x5E [0x12, 0x34] (.lsrAbsX 0x3412) && reads true true 0x5F [0x12, 0x34, 0x56] (.eorLongX 0x563412)) = true := by decide

theorem test_decode_row_6x :
    (reads true true 0x60 [] .rts && reads true true 0x61 [0x12] (.adcIDpX 0x12) &&
      reads true true 0x62 [0x12, 0x34] (.per 0x3412) && reads true true 0x63 [0x12] (.adcSr 0x12) &&
      reads true true 0x64 [0x12] (.stzDp 0x12) && reads true true 0x65 [0x12] (.adcDp 0x12) &&
      reads true true 0x66 [0x12] (.rorDp 0x12) && reads true true 0x67 [0x12] (.adcILDp 0x12) &&
      reads true true 0x68 [] .pla && reads true true 0x69 [0x12] (.adcImm (.b8 0x12)) &&
      reads true true 0x6A [] .rorAcc && reads true true 0x6B [] .rtl &&
      reads true true 0x6C [0x12, 0x34] (.jmpIAbs 0x3412) && reads true true 0x6D [0x12, 0x34] (.adcAbs 0x3412) &&
      reads true true 0x6E [0x12, 0x34] (.rorAbs 0x3412) && reads true true 0x6F [0x12, 0x34, 0x56] (.adcLong 0x563412)) = true := by decide

theorem test_decode_row_7x :
    (reads true true 0x70 [0x12] (.bvs 0x12) && reads true true 0x71 [0x12] (.adcIDpY 0x12) &&
      reads true true 0x72 [0x12] (.adcIDp 0x12) && reads true true 0x73 [0x12] (.adcISrY 0x12) &&
      reads true true 0x74 [0x12] (.stzDpX 0x12) && reads true true 0x75 [0x12] (.adcDpX 0x12) &&
      reads true true 0x76 [0x12] (.rorDpX 0x12) && reads true true 0x77 [0x12] (.adcILDpY 0x12) &&
      reads true true 0x78 [] .sei && reads true true 0x79 [0x12, 0x34] (.adcAbsY 0x3412) &&
      reads true true 0x7A [] .ply && reads true true 0x7B [] .tdc &&
      reads true true 0x7C [0x12, 0x34] (.jmpIAbsX 0x3412) && reads true true 0x7D [0x12, 0x34] (.adcAbsX 0x3412) &&
      reads true true 0x7E [0x12, 0x34] (.rorAbsX 0x3412) && reads true true 0x7F [0x12, 0x34, 0x56] (.adcLongX 0x563412)) = true := by decide

theorem test_decode_row_8x :
    (reads true true 0x80 [0x12] (.bra 0x12) && reads true true 0x81 [0x12] (.staIDpX 0x12) &&
      reads true true 0x82 [0x12, 0x34] (.brl 0x3412) && reads true true 0x83 [0x12] (.staSr 0x12) &&
      reads true true 0x84 [0x12] (.styDp 0x12) && reads true true 0x85 [0x12] (.staDp 0x12) &&
      reads true true 0x86 [0x12] (.stxDp 0x12) && reads true true 0x87 [0x12] (.staILDp 0x12) &&
      reads true true 0x88 [] .dey && reads true true 0x89 [0x12] (.bitImm (.b8 0x12)) &&
      reads true true 0x8A [] .txa && reads true true 0x8B [] .phb &&
      reads true true 0x8C [0x12, 0x34] (.styAbs 0x3412) && reads true true 0x8D [0x12, 0x34] (.staAbs 0x3412) &&
      reads true true 0x8E [0x12, 0x34] (.stxAbs 0x3412) && reads true true 0x8F [0x12, 0x34, 0x56] (.staLong 0x563412)) = true := by decide

theorem test_decode_row_9x :
    (reads true true 0x90 [0x12] (.bcc 0x12) && reads true true 0x91 [0x12] (.staIDpY 0x12) &&
      reads true true 0x92 [0x12] (.staIDp 0x12) && reads true true 0x93 [0x12] (.staISrY 0x12) &&
      reads true true 0x94 [0x12] (.styDpX 0x12) && reads true true 0x95 [0x12] (.staDpX 0x12) &&
      reads true true 0x96 [0x12] (.stxDpY 0x12) && reads true true 0x97 [0x12] (.staILDpY 0x12) &&
      reads true true 0x98 [] .tya && reads true true 0x99 [0x12, 0x34] (.staAbsY 0x3412) &&
      reads true true 0x9A [] .txs && reads true true 0x9B [] .txy &&
      reads true true 0x9C [0x12, 0x34] (.stzAbs 0x3412) && reads true true 0x9D [0x12, 0x34] (.staAbsX 0x3412) &&
      reads true true 0x9E [0x12, 0x34] (.stzAbsX 0x3412) && reads true true 0x9F [0x12, 0x34, 0x56] (.staLongX 0x563412)) = true := by decide

theorem test_decode_row_Ax :
    (reads true true 0xA0 [0x12] (.ldyImm (.b8 0x12)) && reads true true 0xA1 [0x12] (.ldaIDpX 0x12) &&
      reads true true 0xA2 [0x12] (.ldxImm (.b8 0x12)) && reads true true 0xA3 [0x12] (.ldaSr 0x12) &&
      reads true true 0xA4 [0x12] (.ldyDp 0x12) && reads true true 0xA5 [0x12] (.ldaDp 0x12) &&
      reads true true 0xA6 [0x12] (.ldxDp 0x12) && reads true true 0xA7 [0x12] (.ldaILDp 0x12) &&
      reads true true 0xA8 [] .tay && reads true true 0xA9 [0x12] (.ldaImm (.b8 0x12)) &&
      reads true true 0xAA [] .tax && reads true true 0xAB [] .plb &&
      reads true true 0xAC [0x12, 0x34] (.ldyAbs 0x3412) && reads true true 0xAD [0x12, 0x34] (.ldaAbs 0x3412) &&
      reads true true 0xAE [0x12, 0x34] (.ldxAbs 0x3412) && reads true true 0xAF [0x12, 0x34, 0x56] (.ldaLong 0x563412)) = true := by decide

theorem test_decode_row_Bx :
    (reads true true 0xB0 [0x12] (.bcs 0x12) && reads true true 0xB1 [0x12] (.ldaIDpY 0x12) &&
      reads true true 0xB2 [0x12] (.ldaIDp 0x12) && reads true true 0xB3 [0x12] (.ldaISrY 0x12) &&
      reads true true 0xB4 [0x12] (.ldyDpX 0x12) && reads true true 0xB5 [0x12] (.ldaDpX 0x12) &&
      reads true true 0xB6 [0x12] (.ldxDpY 0x12) && reads true true 0xB7 [0x12] (.ldaILDpY 0x12) &&
      reads true true 0xB8 [] .clv && reads true true 0xB9 [0x12, 0x34] (.ldaAbsY 0x3412) &&
      reads true true 0xBA [] .tsx && reads true true 0xBB [] .tyx &&
      reads true true 0xBC [0x12, 0x34] (.ldyAbsX 0x3412) && reads true true 0xBD [0x12, 0x34] (.ldaAbsX 0x3412) &&
      reads true true 0xBE [0x12, 0x34] (.ldxAbsY 0x3412) && reads true true 0xBF [0x12, 0x34, 0x56] (.ldaLongX 0x563412)) = true := by decide

theorem test_decode_row_Cx :
    (reads true true 0xC0 [0x12] (.cpyImm (.b8 0x12)) && reads true true 0xC1 [0x12] (.cmpIDpX 0x12) &&
      reads true true 0xC2 [0x12] (.rep 0x12) && reads true true 0xC3 [0x12] (.cmpSr 0x12) &&
      reads true true 0xC4 [0x12] (.cpyDp 0x12) && reads true true 0xC5 [0x12] (.cmpDp 0x12) &&
      reads true true 0xC6 [0x12] (.decDp 0x12) && reads true true 0xC7 [0x12] (.cmpILDp 0x12) &&
      reads true true 0xC8 [] .iny && reads true true 0xC9 [0x12] (.cmpImm (.b8 0x12)) &&
      reads true true 0xCA [] .dex && reads true true 0xCB [] .wai &&
      reads true true 0xCC [0x12, 0x34] (.cpyAbs 0x3412) && reads true true 0xCD [0x12, 0x34] (.cmpAbs 0x3412) &&
      reads true true 0xCE [0x12, 0x34] (.decAbs 0x3412) && reads true true 0xCF [0x12, 0x34, 0x56] (.cmpLong 0x563412)) = true := by decide

theorem test_decode_row_Dx :
    (reads true true 0xD0 [0x12] (.bne 0x12) && reads true true 0xD1 [0x12] (.cmpIDpY 0x12) &&
      reads true true 0xD2 [0x12] (.cmpIDp 0x12) && reads true true 0xD3 [0x12] (.cmpISrY 0x12) &&
      reads true true 0xD4 [0x12] (.pei 0x12) && reads true true 0xD5 [0x12] (.cmpDpX 0x12) &&
      reads true true 0xD6 [0x12] (.decDpX 0x12) && reads true true 0xD7 [0x12] (.cmpILDpY 0x12) &&
      reads true true 0xD8 [] .cld && reads true true 0xD9 [0x12, 0x34] (.cmpAbsY 0x3412) &&
      reads true true 0xDA [] .phx && reads true true 0xDB [] .stp &&
      reads true true 0xDC [0x12, 0x34] (.jmlILAbs 0x3412) && reads true true 0xDD [0x12, 0x34] (.cmpAbsX 0x3412) &&
      reads true true 0xDE [0x12, 0x34] (.decAbsX 0x3412) && reads true true 0xDF [0x12, 0x34, 0x56] (.cmpLongX 0x563412)) = true := by decide

theorem test_decode_row_Ex :
    (reads true true 0xE0 [0x12] (.cpxImm (.b8 0x12)) && reads true true 0xE1 [0x12] (.sbcIDpX 0x12) &&
      reads true true 0xE2 [0x12] (.sep 0x12) && reads true true 0xE3 [0x12] (.sbcSr 0x12) &&
      reads true true 0xE4 [0x12] (.cpxDp 0x12) && reads true true 0xE5 [0x12] (.sbcDp 0x12) &&
      reads true true 0xE6 [0x12] (.incDp 0x12) && reads true true 0xE7 [0x12] (.sbcILDp 0x12) &&
      reads true true 0xE8 [] .inx && reads true true 0xE9 [0x12] (.sbcImm (.b8 0x12)) &&
      reads true true 0xEA [] .nop && reads true true 0xEB [] .xba &&
      reads true true 0xEC [0x12, 0x34] (.cpxAbs 0x3412) && reads true true 0xED [0x12, 0x34] (.sbcAbs 0x3412) &&
      reads true true 0xEE [0x12, 0x34] (.incAbs 0x3412) && reads true true 0xEF [0x12, 0x34, 0x56] (.sbcLong 0x563412)) = true := by decide

theorem test_decode_row_Fx :
    (reads true true 0xF0 [0x12] (.beq 0x12) && reads true true 0xF1 [0x12] (.sbcIDpY 0x12) &&
      reads true true 0xF2 [0x12] (.sbcIDp 0x12) && reads true true 0xF3 [0x12] (.sbcISrY 0x12) &&
      reads true true 0xF4 [0x12, 0x34] (.pea 0x3412) && reads true true 0xF5 [0x12] (.sbcDpX 0x12) &&
      reads true true 0xF6 [0x12] (.incDpX 0x12) && reads true true 0xF7 [0x12] (.sbcILDpY 0x12) &&
      reads true true 0xF8 [] .sed && reads true true 0xF9 [0x12, 0x34] (.sbcAbsY 0x3412) &&
      reads true true 0xFA [] .plx && reads true true 0xFB [] .xce &&
      reads true true 0xFC [0x12, 0x34] (.jsrIAbsX 0x3412) && reads true true 0xFD [0x12, 0x34] (.sbcAbsX 0x3412) &&
      reads true true 0xFE [0x12, 0x34] (.incAbsX 0x3412) && reads true true 0xFF [0x12, 0x34, 0x56] (.sbcLongX 0x563412)) = true := by decide

theorem test_decode_wide_immediates :
    (reads false false 0x09 [0x12, 0x34] (.oraImm (.b16 0x3412)) && reads false false 0x29 [0x12, 0x34] (.andImm (.b16 0x3412)) &&
      reads false false 0x49 [0x12, 0x34] (.eorImm (.b16 0x3412)) && reads false false 0x69 [0x12, 0x34] (.adcImm (.b16 0x3412)) &&
      reads false false 0x89 [0x12, 0x34] (.bitImm (.b16 0x3412)) && reads false false 0xA0 [0x12, 0x34] (.ldyImm (.b16 0x3412)) &&
      reads false false 0xA2 [0x12, 0x34] (.ldxImm (.b16 0x3412)) && reads false false 0xA9 [0x12, 0x34] (.ldaImm (.b16 0x3412)) &&
      reads false false 0xC0 [0x12, 0x34] (.cpyImm (.b16 0x3412)) && reads false false 0xC9 [0x12, 0x34] (.cmpImm (.b16 0x3412)) &&
      reads false false 0xE0 [0x12, 0x34] (.cpxImm (.b16 0x3412)) && reads false false 0xE9 [0x12, 0x34] (.sbcImm (.b16 0x3412))) = true := by decide

/-- The two rejections, by name; no byte is rejected for what it is (R97). -/
theorem test_decode_rejects_short_lists : decode true true [] = .error .noOpcode ∧
    decode true true [0xA9] = .error (.truncated 0xA9) ∧ decode true true [0xAF, 0x12, 0x34] = .error (.truncated 0xAF) ∧
    decode false true [0xA9, 0x12] = .error (.truncated 0xA9) := by decide

/-- The host's numbering: bit 0 is the least significant bit of the first byte. -/
theorem test_decodeTableWord : decodeTableWord 16 0x12A5 = some (.ldaDp 0x12) ∧
    decodeTableWord 24 0x7E7F54 = some (.mvn 0x7F 0x7E) ∧ decodeTableWord 8 0xEA = some .nop := by decide

/-! ## One step: vectors of 95_test_vectors.md -/

/-- The default start state of 95_test_vectors.md: native mode, `P = $00`, `SP = $1FFF`, at `$00:8000`. -/
def start : State :=
  { State.reset with E := false, P := 0x00, SP := 0x1FFF, PC := 0x8000, trace := [] }

/-- One step from a state with an instruction at `{PBR, PC}` and bytes in RAM ends in a state that passes a check. -/
def ends (s : State) (bytes : List Byte) (ram : List Host.Cell) (check : State → Bool) : Bool :=
  match step { s with mem := Memory.layDown s.PBR s.PC bytes (ram.foldl (fun m c => Memory.write m c.1 c.2) []) } with
  | .next t => check t
  | _ => false

/-- R161: 8-bit load leaves A.h; N from bit 7. -/
theorem test_T41_1_lda :
    ends { start with A := 0xAB00, P := 0x20 } [0xA9, 0x80] []
      (fun t => t.A == 0xAB80 && t.PC == 0x8002 && t.P == 0xA0) = true := by decide

/-- R161: abs word at a bank end continues into the next bank. -/
theorem test_T41_3_lda :
    ends { start with DBR := 0x7E } [0xAD, 0xFF, 0xFF] [(0x7EFFFF, 0x34), (0x7F0000, 0x12)]
      (fun t => t.A == 0x1234 && t.PC == 0x8003 && t.P == 0x00) = true := by decide

/-- R162: LDX at 8 bits: 2 bytes, X.h stays 0. -/
theorem test_T41_9_ldx :
    ends { start with P := 0x10 } [0xA2, 0xFF] []
      (fun t => t.X == 0x00FF && t.PC == 0x8002 && t.P == 0x90) = true := by decide

/-- R164: 16-bit store, low byte first. -/
theorem test_T41_10_sta :
    ends { start with A := 0x1234, DBR := 0x7E } [0x8D, 0x00, 0x20] []
      (fun t => t.PC == 0x8003 && t.P == 0x00 && t.ram 0x7E2000 == 0x34 && t.ram 0x7E2001 == 0x12) = true := by decide

/-- R167: STZ abs,X crossing a bank; writes two zero bytes. -/
theorem test_T41_11_stz :
    ends { start with X := 0x0001, DBR := 0x01 } [0x9E, 0xFF, 0xFF] []
      (fun t => t.PC == 0x8003 && t.P == 0x00 && t.ram 0x020000 == 0x00 && t.ram 0x020001 == 0x00) = true := by decide

/-- R171: TAX with P.M=1, P.X=0 moves all 16 bits of A. -/
theorem test_T41_12_tax :
    ends { start with A := 0x8012, P := 0x20 } [0xAA] []
      (fun t => t.X == 0x8012 && t.PC == 0x8001 && t.P == 0xA0) = true := by decide

/-- R176: TXS in emulation: SP.h stays $01; no flags. -/
theorem test_T41_13_txs :
    ends { start with X := 0x00FF, SP := 0x0180, P := 0x30, E := true } [0x9A] []
      (fun t => t.SP == 0x01FF && t.PC == 0x8001 && t.P == 0x30) = true := by decide

/-- R181: TCS in emulation: SP.h forced to $01; no flags. -/
theorem test_T41_14_tcs :
    ends { start with A := 0x1234, P := 0x30, E := true } [0x1B] []
      (fun t => t.SP == 0x0134 && t.PC == 0x8001 && t.P == 0x30) = true := by decide

/-- R184: XBA: flags from the new A.l at 8 bits, whatever P.M. -/
theorem test_T41_15_xba :
    ends { start with A := 0x0034, P := 0x20 } [0xEB] []
      (fun t => t.A == 0x3400 && t.PC == 0x8001 && t.P == 0x22) = true := by decide

/-- R180: TCD: 16 bits whatever P.M; N, Z at 16 bits. -/
theorem test_T41_16_tcd :
    ends { start with A := 0xFF00, P := 0x20 } [0x5B] []
      (fun t => t.PC == 0x8001 && t.D == 0xFF00 && t.P == 0xA0) = true := by decide

/-- R165: STX dp,Y. -/
theorem test_T41_17_stx :
    ends { start with X := 0x0042, Y := 0x0005, D := 0x0100, P := 0x10 } [0x96, 0x10] []
      (fun t => t.PC == 0x8002 && t.P == 0x10 && t.ram 0x000115 == 0x42) = true := by decide

/-- R172: TAY with P.X=1 takes A.l only; Y.h = 0. -/
theorem test_T41_22_tay :
    ends { start with A := 0x12FF, P := 0x10 } [0xA8] []
      (fun t => t.Y == 0x00FF && t.PC == 0x8001 && t.P == 0x90) = true := by decide

/-- R173: TXA with P.M=1 writes A.l only. -/
theorem test_T41_23_txa :
    ends { start with A := 0xAB00, X := 0x1234, P := 0x20 } [0x8A] []
      (fun t => t.A == 0xAB34 && t.PC == 0x8001 && t.P == 0x20) = true := by decide

/-- R175: TSX with P.X=1 takes SP.l. -/
theorem test_T41_24_tsx :
    ends { start with SP := 0x1F80, P := 0x10 } [0xBA] []
      (fun t => t.X == 0x0080 && t.PC == 0x8001 && t.P == 0x90) = true := by decide

/-- R182: TDC: all 16 bits, whatever P.M. -/
theorem test_T41_25_tdc :
    ends { start with A := 0xFFFF, P := 0x20 } [0x7B] []
      (fun t => t.A == 0x0000 && t.PC == 0x8001 && t.P == 0x22) = true := by decide

/-- R183: TSC. -/
theorem test_T41_26_tsc :
    ends { start with SP := 0x8000, P := 0x20 } [0x3B] []
      (fun t => t.A == 0x8000 && t.PC == 0x8001 && t.P == 0xA0) = true := by decide

/-- R177: TXY. -/
theorem test_T41_27_txy :
    ends { start with X := 0x8000, Y := 0x0001 } [0x9B] []
      (fun t => t.Y == 0x8000 && t.PC == 0x8001 && t.P == 0x80) = true := by decide

/-- R161: (sr,S),Y. -/
theorem test_T41_8_lda :
    ends { start with Y := 0x0003, SP := 0x1FF0, DBR := 0x01, P := 0x20 } [0xB3, 0x02] [(0x001FF2, 0x00), (0x001FF3, 0x30), (0x013003, 0x99)]
      (fun t => t.A == 0x0099 && t.PC == 0x8002 && t.P == 0xA0) = true := by decide

/-- R204: $80+$80: V=1, C=1, Z=1. -/
theorem test_T42_2_adc :
    ends { start with A := 0x0080, P := 0x20 } [0x69, 0x80] []
      (fun t => t.A == 0x0000 && t.PC == 0x8002 && t.P == 0x63) = true := by decide

/-- R204: decimal 58+46+1=105. -/
theorem test_T42_8_adc :
    ends { start with A := 0x0058, P := 0x29 } [0x69, 0x46] []
      (fun t => t.A == 0x0005 && t.PC == 0x8002 && t.P == 0x29) = true := by decide

/-- R205: $80-$01: V=1. -/
theorem test_T42_13_sbc :
    ends { start with A := 0x0080, P := 0x21 } [0xE9, 0x01] []
      (fun t => t.A == 0x007F && t.PC == 0x8002 && t.P == 0x61) = true := by decide

/-- R205: decimal 00-01=99, C=0. -/
theorem test_T42_18_sbc :
    ends { start with P := 0x29 } [0xE9, 0x01] []
      (fun t => t.A == 0x0099 && t.PC == 0x8002 && t.P == 0xA8) = true := by decide

/-- R202: AND 8-bit: Z; A.h untouched. -/
theorem test_T42_21_and :
    ends { start with A := 0x12F0, P := 0x20 } [0x29, 0x0F] []
      (fun t => t.A == 0x1200 && t.PC == 0x8002 && t.P == 0x22) = true := by decide

/-- R201: ORA 16-bit: N. -/
theorem test_T42_22_ora :
    ends { start with A := 0x0001 } [0x09, 0x00, 0x80] []
      (fun t => t.A == 0x8001 && t.PC == 0x8003 && t.P == 0x80) = true := by decide

/-- R203: EOR 8-bit. -/
theorem test_T42_23_eor :
    ends { start with A := 0x12FF, P := 0x20 } [0x49, 0xFF] []
      (fun t => t.A == 0x1200 && t.PC == 0x8002 && t.P == 0x22) = true := by decide

/-- R221: ASL A 8-bit: C from bit 7. -/
theorem test_T43_1_asl :
    ends { start with A := 0x1281, P := 0x20 } [0x0A] []
      (fun t => t.A == 0x1202 && t.PC == 0x8001 && t.P == 0x21) = true := by decide

/-- R222: LSR A 16-bit. -/
theorem test_T43_3_lsr :
    ends { start with A := 0x8001 } [0x4A] []
      (fun t => t.A == 0x4000 && t.PC == 0x8001 && t.P == 0x01) = true := by decide

/-- R223: ROL A 8-bit, carry in. -/
theorem test_T43_4_rol :
    ends { start with A := 0x0040, P := 0x21 } [0x2A] []
      (fun t => t.A == 0x0081 && t.PC == 0x8001 && t.P == 0xA0) = true := by decide

/-- R224: ROR dp 16-bit: read lo,hi then write lo,hi. -/
theorem test_T43_6_ror :
    ends { start with P := 0x01 } [0x66, 0x10] [(0x000010, 0x02), (0x000011, 0x00)]
      (fun t => t.PC == 0x8002 && t.P == 0x80 && t.ram 0x000010 == 0x01 && t.ram 0x000011 == 0x80) = true := by decide

/-- R222: LSR dp word wrapping in bank 0. -/
theorem test_T43_9_lsr :
    ends { start with D := 0xFF00 } [0x46, 0xFF] [(0x00FFFF, 0x01), (0x000000, 0x01)]
      (fun t => t.PC == 0x8002 && t.P == 0x01 && t.ram 0x00FFFF == 0x80 && t.ram 0x000000 == 0x00) = true := by decide

/-- R241: CMP 16-bit A<m: C=0, N from difference. -/
theorem test_T44_1_cmp :
    ends { start with A := 0x1000 } [0xC9, 0x00, 0x20] []
      (fun t => t.PC == 0x8003 && t.P == 0x80) = true := by decide

/-- R242: CPX 8-bit. -/
theorem test_T44_4_cpx :
    ends { start with X := 0x0010, P := 0x10 } [0xE0, 0x10] []
      (fun t => t.PC == 0x8002 && t.P == 0x13) = true := by decide

/-- R243: CPY 16-bit 0-1. -/
theorem test_T44_5_cpy :
    ends start [0xC0, 0x01, 0x00] []
      (fun t => t.PC == 0x8003 && t.P == 0x80) = true := by decide

/-- R244: BIT #imm: only Z changes. -/
theorem test_T44_7_bit :
    ends { start with A := 0x00FF, P := 0xE0 } [0x89, 0x00] []
      (fun t => t.PC == 0x8002 && t.P == 0xE2) = true := by decide

/-- R244: BIT abs 16-bit: N=bit15, V=bit14. -/
theorem test_T44_9_bit :
    ends { start with A := 0x4000 } [0x2C, 0x00, 0x20] [(0x002000, 0x00), (0x002001, 0x40)]
      (fun t => t.PC == 0x8003 && t.P == 0x40) = true := by decide

/-- R245: TSB dp: Z from A AND m (old). -/
theorem test_T44_10_tsb :
    ends { start with A := 0x0003, P := 0x20 } [0x04, 0x10] [(0x000010, 0x05)]
      (fun t => t.PC == 0x8002 && t.P == 0x20 && t.ram 0x000010 == 0x07) = true := by decide

/-- R246: TRB abs 16-bit. -/
theorem test_T44_11_trb :
    ends { start with A := 0x00F0 } [0x1C, 0x00, 0x20] [(0x002000, 0xFF), (0x002001, 0x0F)]
      (fun t => t.PC == 0x8003 && t.P == 0x00 && t.ram 0x002000 == 0x0F && t.ram 0x002001 == 0x0F) = true := by decide

/-- R261: INC A 8-bit wrap, A.h untouched. -/
theorem test_T45_1_inc :
    ends { start with A := 0x12FF, P := 0x20 } [0x1A] []
      (fun t => t.A == 0x1200 && t.PC == 0x8001 && t.P == 0x22) = true := by decide

/-- R262: DEC dp 16-bit borrow across bytes. -/
theorem test_T45_2_dec :
    ends start [0xC6, 0x10] [(0x000010, 0x00), (0x000011, 0x01)]
      (fun t => t.PC == 0x8002 && t.P == 0x00 && t.ram 0x000010 == 0xFF && t.ram 0x000011 == 0x00) = true := by decide

/-- R263: INX 8-bit wrap. -/
theorem test_T45_3_inx :
    ends { start with X := 0x00FF, P := 0x10 } [0xE8] []
      (fun t => t.X == 0x0000 && t.PC == 0x8001 && t.P == 0x12) = true := by decide

/-- R264: INY 16-bit wrap to 0; C untouched. -/
theorem test_T45_9_iny :
    ends { start with Y := 0xFFFF, P := 0x01 } [0xC8] []
      (fun t => t.Y == 0x0000 && t.PC == 0x8001 && t.P == 0x03) = true := by decide

/-- R265: DEX 8-bit wrap. -/
theorem test_T45_5_dex :
    ends { start with P := 0x10 } [0xCA] []
      (fun t => t.X == 0x00FF && t.PC == 0x8001 && t.P == 0x90) = true := by decide

/-- R266: DEY 16-bit wrap. -/
theorem test_T45_6_dey :
    ends start [0x88] []
      (fun t => t.Y == 0xFFFF && t.PC == 0x8001 && t.P == 0x80) = true := by decide

/-- R288: not taken. -/
theorem test_T46_2_bne :
    ends { start with P := 0x02 } [0xD0, 0xFE] []
      (fun t => t.PC == 0x8002 && t.P == 0x02) = true := by decide

/-- R289: BEQ taken forward. -/
theorem test_T46_3_beq :
    ends { start with P := 0x02 } [0xF0, 0x10] []
      (fun t => t.PC == 0x8012 && t.P == 0x02) = true := by decide

/-- R290: BRA backward wraps inside the bank. -/
theorem test_T46_5_bra :
    ends { start with PC := 0x0010 } [0x80, 0x80] []
      (fun t => t.PC == 0xFF92 && t.P == 0x00) = true := by decide

/-- R286: BCC not taken. -/
theorem test_T46_6_bcc :
    ends { start with P := 0x01 } [0x90, 0x05] []
      (fun t => t.PC == 0x8002 && t.P == 0x01) = true := by decide

/-- R287: BCS taken. -/
theorem test_T46_7_bcs :
    ends { start with P := 0x01 } [0xB0, 0x05] []
      (fun t => t.PC == 0x8007 && t.P == 0x01) = true := by decide

/-- R282: BPL taken in bank $01; PBR stays. -/
theorem test_T46_8_bpl :
    ends { start with PBR := 0x01 } [0x10, 0xFC] []
      (fun t => t.PC == 0x7FFE && t.P == 0x00) = true := by decide

/-- R283: BMI taken. -/
theorem test_T46_9_bmi :
    ends { start with P := 0x80 } [0x30, 0x02] []
      (fun t => t.PC == 0x8004 && t.P == 0x80) = true := by decide

/-- R284: BVC not taken. -/
theorem test_T46_10_bvc :
    ends { start with P := 0x40 } [0x50, 0x02] []
      (fun t => t.PC == 0x8002 && t.P == 0x40) = true := by decide

/-- R285: BVS taken. -/
theorem test_T46_11_bvs :
    ends { start with P := 0x40 } [0x70, 0x02] []
      (fun t => t.PC == 0x8004 && t.P == 0x40) = true := by decide

/-- R291: BRL: $9003+$8000 wraps to $1003. -/
theorem test_T46_12_brl :
    ends { start with PC := 0x9000 } [0x82, 0x00, 0x80] []
      (fun t => t.PC == 0x1003 && t.P == 0x00) = true := by decide

/-- R292: JMP (abs): pointer in bank 0, wraps in bank 0. -/
theorem test_T46_16_jmp :
    ends { start with DBR := 0x7E, PBR := 0x05 } [0x6C, 0xFF, 0xFF] [(0x00FFFF, 0x34), (0x000000, 0x12), (0x010000, 0x99)]
      (fun t => t.PC == 0x1234 && t.P == 0x00) = true := by decide

/-- R292: JMP (abs,X): pointer in PBR, offset wraps. -/
theorem test_T46_17_jmp :
    ends { start with X := 0x0002, PBR := 0x05 } [0x7C, 0xFF, 0xFF] [(0x050001, 0x78), (0x050002, 0x56)]
      (fun t => t.PC == 0x5678 && t.P == 0x00) = true := by decide

/-- R293: JML [abs]: 3-byte pointer in bank 0, wraps. -/
theorem test_T46_18_jml :
    ends start [0xDC, 0xFF, 0xFF] [(0x00FFFF, 0x56), (0x000000, 0x34), (0x000001, 0x12)]
      (fun t => t.PC == 0x3456 && t.PBR == 0x12 && t.P == 0x00) = true := by decide

/-- R294: JSR (abs,X): push, then pointer read in PBR. -/
theorem test_T46_23_jsr :
    ends { start with X := 0x0004, PBR := 0x05 } [0xFC, 0x00, 0x90] [(0x059004, 0x00), (0x059005, 0xA0)]
      (fun t => t.SP == 0x1FFD && t.PC == 0xA000 && t.P == 0x00 && t.ram 0x001FFF == 0x80 && t.ram 0x001FFE == 0x02) = true := by decide

/-- R294: emulation: pushes wrap inside page 1. -/
theorem test_T46_24_jsr :
    ends { start with SP := 0x0100, P := 0x30, E := true } [0x20, 0x00, 0x90] []
      (fun t => t.SP == 0x01FE && t.PC == 0x9000 && t.P == 0x30 && t.ram 0x000100 == 0x80 && t.ram 0x0001FF == 0x02) = true := by decide

/-- R296: emulation: pulls wrap inside page 1. -/
theorem test_T46_25_rts :
    ends { start with SP := 0x01FF, P := 0x30, E := true } [0x60] [(0x000100, 0x34), (0x000101, 0x12)]
      (fun t => t.SP == 0x0101 && t.PC == 0x1235 && t.P == 0x30) = true := by decide

/-- R295: emulation JSL: every push wraps in page 1 (decision D9). -/
theorem test_T46_26_jsl :
    ends { start with SP := 0x0101, P := 0x30, E := true } [0x22, 0x00, 0x90, 0x02] []
      (fun t => t.SP == 0x01FE && t.PC == 0x9000 && t.PBR == 0x02 && t.P == 0x30 && t.ram 0x000101 == 0x00 && t.ram 0x000100 == 0x80 && t.ram 0x0001FF == 0x03) = true := by decide

/-- R297: RTL: ZNES §8 example. -/
theorem test_T46_22_rtl :
    ends { start with SP := 0x1FFC, PBR := 0x01, PC := 0x2345 } [0x6B] [(0x001FFD, 0x02), (0x001FFE, 0x80), (0x001FFF, 0x00)]
      (fun t => t.SP == 0x1FFF && t.PC == 0x8003 && t.PBR == 0x00 && t.P == 0x00) = true := by decide

/-- R311: PHA 8-bit. -/
theorem test_T47_1_pha :
    ends { start with A := 0x1234, P := 0x20 } [0x48] []
      (fun t => t.SP == 0x1FFE && t.PC == 0x8001 && t.P == 0x20 && t.ram 0x001FFF == 0x34) = true := by decide

/-- R318: PLA 8-bit keeps A.h; N. -/
theorem test_T47_3_pla :
    ends { start with A := 0xAB00, SP := 0x1FFE, P := 0x20 } [0x68] [(0x001FFF, 0x80)]
      (fun t => t.A == 0xAB80 && t.SP == 0x1FFF && t.PC == 0x8001 && t.P == 0xA0) = true := by decide

/-- R314: PHP native pushes P as is. -/
theorem test_T47_5_php :
    ends { start with P := 0xC3 } [0x08] []
      (fun t => t.SP == 0x1FFE && t.PC == 0x8001 && t.P == 0xC3 && t.ram 0x001FFF == 0xC3) = true := by decide

/-- R321: PLP setting P.X clears X.h, Y.h. -/
theorem test_T47_7_plp :
    ends { start with X := 0x1234, Y := 0x5678, SP := 0x1FFE } [0x28] [(0x001FFF, 0x30)]
      (fun t => t.X == 0x0034 && t.Y == 0x0078 && t.SP == 0x1FFF && t.PC == 0x8001 && t.P == 0x30) = true := by decide

/-- R321: PLP emulation: M, X forced to 1. -/
theorem test_T47_8_plp :
    ends { start with SP := 0x01FE, P := 0x30, E := true } [0x28] [(0x0001FF, 0xC1)]
      (fun t => t.SP == 0x01FF && t.PC == 0x8001 && t.P == 0xF1) = true := by decide

/-- R312: PHX 8-bit. -/
theorem test_T47_9_phx :
    ends { start with X := 0x0042, P := 0x10 } [0xDA] []
      (fun t => t.SP == 0x1FFE && t.PC == 0x8001 && t.P == 0x10 && t.ram 0x001FFF == 0x42) = true := by decide

/-- R313: PHY 16-bit. -/
theorem test_T47_10_phy :
    ends { start with Y := 0xBEEF } [0x5A] []
      (fun t => t.SP == 0x1FFD && t.PC == 0x8001 && t.P == 0x00 && t.ram 0x001FFF == 0xBE && t.ram 0x001FFE == 0xEF) = true := by decide

/-- R319: PLX 8-bit: Z. -/
theorem test_T47_11_plx :
    ends { start with X := 0x0077, SP := 0x1FFE, P := 0x10 } [0xFA] [(0x001FFF, 0x00)]
      (fun t => t.X == 0x0000 && t.SP == 0x1FFF && t.PC == 0x8001 && t.P == 0x12) = true := by decide

/-- R320: PLY 16-bit: N. -/
theorem test_T47_12_ply :
    ends { start with SP := 0x1FFD } [0x7A] [(0x001FFE, 0x01), (0x001FFF, 0x80)]
      (fun t => t.Y == 0x8001 && t.SP == 0x1FFF && t.PC == 0x8001 && t.P == 0x80) = true := by decide

/-- R315: PHB. -/
theorem test_T47_13_phb :
    ends { start with DBR := 0x7E } [0x8B] []
      (fun t => t.SP == 0x1FFE && t.PC == 0x8001 && t.P == 0x00 && t.ram 0x001FFF == 0x7E) = true := by decide

/-- R322: PLB: N, Z at 8 bits. -/
theorem test_T47_14_plb :
    ends { start with SP := 0x1FFE } [0xAB] [(0x001FFF, 0x80)]
      (fun t => t.SP == 0x1FFF && t.PC == 0x8001 && t.DBR == 0x80 && t.P == 0x80) = true := by decide

/-- R316: PHD. -/
theorem test_T47_15_phd :
    ends { start with D := 0x1234 } [0x0B] []
      (fun t => t.SP == 0x1FFD && t.PC == 0x8001 && t.P == 0x00 && t.ram 0x001FFF == 0x12 && t.ram 0x001FFE == 0x34) = true := by decide

/-- R323: PLD: N, Z at 16 bits. -/
theorem test_T47_16_pld :
    ends { start with SP := 0x1FFD, D := 0x1111 } [0x2B] [(0x001FFE, 0x00), (0x001FFF, 0x00)]
      (fun t => t.SP == 0x1FFF && t.PC == 0x8001 && t.D == 0x0000 && t.P == 0x02) = true := by decide

/-- R317: PHK. -/
theorem test_T47_17_phk :
    ends { start with PBR := 0x12 } [0x4B] []
      (fun t => t.SP == 0x1FFE && t.PC == 0x8001 && t.P == 0x00 && t.ram 0x001FFF == 0x12) = true := by decide

/-- R324: PEA: 16 bits whatever P.M. -/
theorem test_T47_18_pea :
    ends start [0xF4, 0x34, 0x12] []
      (fun t => t.SP == 0x1FFD && t.PC == 0x8003 && t.P == 0x00 && t.ram 0x001FFF == 0x12 && t.ram 0x001FFE == 0x34) = true := by decide

/-- R325: PEI: pushes the pointer, not its target. -/
theorem test_T47_19_pei :
    ends { start with D := 0x0100 } [0xD4, 0x10] [(0x000110, 0xCD), (0x000111, 0xAB)]
      (fun t => t.SP == 0x1FFD && t.PC == 0x8002 && t.P == 0x00 && t.ram 0x001FFF == 0xAB && t.ram 0x001FFE == 0xCD) = true := by decide

/-- R326: PER: $8003 + $0010. -/
theorem test_T47_20_per :
    ends start [0x62, 0x10, 0x00] []
      (fun t => t.SP == 0x1FFD && t.PC == 0x8003 && t.P == 0x00 && t.ram 0x001FFF == 0x80 && t.ram 0x001FFE == 0x13) = true := by decide

/-- R348: REP clears the named bits only. -/
theorem test_T48_1_rep :
    ends { start with P := 0xFF } [0xC2, 0x30] []
      (fun t => t.PC == 0x8002 && t.P == 0xCF) = true := by decide

/-- R349: SEP setting X clears X.h, Y.h; A.h kept. -/
theorem test_T48_3_sep :
    ends { start with A := 0x1234, X := 0x1234, Y := 0xABCD } [0xE2, 0x30] []
      (fun t => t.X == 0x0034 && t.Y == 0x00CD && t.PC == 0x8002 && t.P == 0x30) = true := by decide

/-- R350: XCE E=1,C=0: to native; M, X, SP unchanged. -/
theorem test_T48_6_xce :
    ends { start with SP := 0x01FF, P := 0x30, E := true } [0xFB] []
      (fun t => t.PC == 0x8001 && t.P == 0x31 && t.E == false) = true := by decide

/-- R350: XCE E=0,C=1: to emulation; M=X=1, X.h=Y.h=0, SP.h=$01, A.h kept. -/
theorem test_T48_7_xce :
    ends { start with A := 0xABCD, X := 0x1234, Y := 0x5678, P := 0x01 } [0xFB] []
      (fun t => t.X == 0x0034 && t.Y == 0x0078 && t.SP == 0x01FF && t.PC == 0x8001 && t.P == 0x30 && t.E == true) = true := by decide

/-- R341: CLC. -/
theorem test_T48_10_clc :
    ends { start with P := 0xFF } [0x18] []
      (fun t => t.PC == 0x8001 && t.P == 0xFE) = true := by decide

/-- R342: SEC. -/
theorem test_T48_11_sec :
    ends start [0x38] []
      (fun t => t.PC == 0x8001 && t.P == 0x01) = true := by decide

/-- R343: CLI. -/
theorem test_T48_12_cli :
    ends { start with P := 0xFF } [0x58] []
      (fun t => t.PC == 0x8001 && t.P == 0xFB) = true := by decide

/-- R344: SEI. -/
theorem test_T48_13_sei :
    ends start [0x78] []
      (fun t => t.PC == 0x8001 && t.P == 0x04) = true := by decide

/-- R345: CLD. -/
theorem test_T48_14_cld :
    ends { start with P := 0xFF } [0xD8] []
      (fun t => t.PC == 0x8001 && t.P == 0xF7) = true := by decide

/-- R346: SED. -/
theorem test_T48_15_sed :
    ends start [0xF8] []
      (fun t => t.PC == 0x8001 && t.P == 0x08) = true := by decide

/-- R347: CLV. -/
theorem test_T48_16_clv :
    ends { start with P := 0xFF } [0xB8] []
      (fun t => t.PC == 0x8001 && t.P == 0xBF) = true := by decide

/-- R351: NOP. -/
theorem test_T48_17_nop :
    ends start [0xEA] []
      (fun t => t.PC == 0x8001 && t.P == 0x00) = true := by decide

/-- R352: WDM: 2 bytes, no effect (decision D38). -/
theorem test_T48_18_wdm :
    ends start [0x42, 0xFF] []
      (fun t => t.PC == 0x8002 && t.P == 0x00) = true := by decide

/-- R355: BRK native: 4-byte frame, vector $00:FFE6, PBR←0, D←0, I←1. -/
theorem test_T48_19_brk :
    ends { start with P := 0x08, PBR := 0x12, PC := 0x8010 } [0x00, 0xEE] [(0x00FFE6, 0x00), (0x00FFE7, 0x90)]
      (fun t => t.SP == 0x1FFB && t.PC == 0x9000 && t.PBR == 0x00 && t.P == 0x04 && t.ram 0x001FFF == 0x12 && t.ram 0x001FFE == 0x80 && t.ram 0x001FFD == 0x12 && t.ram 0x001FFC == 0x08) = true := by decide

/-- R355: BRK emulation: ZNES §8 example; pushed P has bits 5, 4 set. -/
theorem test_T48_20_brk :
    ends { start with SP := 0x01FF, P := 0x38, E := true, PC := 0x8010 } [0x00, 0xEE] [(0x00FFFE, 0x00), (0x00FFFF, 0x90)]
      (fun t => t.SP == 0x01FC && t.PC == 0x9000 && t.P == 0x34 && t.ram 0x0001FF == 0x80 && t.ram 0x0001FE == 0x12 && t.ram 0x0001FD == 0x38) = true := by decide

/-- R356: COP native: vector $00:FFE4. -/
theorem test_T48_21_cop :
    ends { start with P := 0x08, PBR := 0x12, PC := 0x8010 } [0x02, 0xEE] [(0x00FFE4, 0x00), (0x00FFE5, 0xA0)]
      (fun t => t.SP == 0x1FFB && t.PC == 0xA000 && t.PBR == 0x00 && t.P == 0x04 && t.ram 0x001FFF == 0x12 && t.ram 0x001FFE == 0x80 && t.ram 0x001FFD == 0x12 && t.ram 0x001FFC == 0x08) = true := by decide

/-- R357: RTI native: P, PC, PBR (undoes T48.19). -/
theorem test_T48_23_rti :
    ends { start with SP := 0x1FFB, P := 0x04, PC := 0x9000 } [0x40] [(0x001FFC, 0x08), (0x001FFD, 0x12), (0x001FFE, 0x80), (0x001FFF, 0x12)]
      (fun t => t.SP == 0x1FFF && t.PC == 0x8012 && t.PBR == 0x12 && t.P == 0x08) = true := by decide

/-- R357: RTI emulation: P, PC (undoes T48.20). -/
theorem test_T48_24_rti :
    ends { start with SP := 0x01FC, P := 0x34, E := true, PC := 0x9000 } [0x40] [(0x0001FD, 0x38), (0x0001FE, 0x12), (0x0001FF, 0x80)]
      (fun t => t.SP == 0x01FF && t.PC == 0x8012 && t.P == 0x38) = true := by decide

/-- R353: WAI. -/
theorem test_T48_26_wai :
    ends { start with P := 0x04 } [0xCB] []
      (fun t => t.PC == 0x8001 && t.waiting == true && t.P == 0x04) = true := by decide

/-- R354: STP then a step: no change, no port access. -/
theorem test_T48_28_stp :
    ends start [0xDB] []
      (fun t => t.PC == 0x8001 && t.stopped == true && t.P == 0x00) = true := by decide

/-- R373: first step of T49.1 alone: PC stays on the opcode, DBR unchanged. -/
theorem test_T49_7_mvn :
    ends { start with A := 0x0002, X := 0x1000, Y := 0x2000 } [0x54, 0x7F, 0x7E] [(0x7E1000, 0xAA), (0x7E1001, 0xBB), (0x7E1002, 0xCC)]
      (fun t => t.A == 0x0001 && t.X == 0x1001 && t.Y == 0x2001 && t.PC == 0x8000 && t.P == 0x00 && t.ram 0x7F2000 == 0xAA) = true := by decide

/-- R373: A=0: one byte, completes in the first step; X, Y wrap at 16 bits. -/
theorem test_T49_3_mvn :
    ends { start with X := 0xFFFF, Y := 0xFFFF } [0x54, 0x02, 0x01] [(0x01FFFF, 0x5A)]
      (fun t => t.A == 0xFFFF && t.X == 0x0000 && t.Y == 0x0000 && t.PC == 0x8003 && t.DBR == 0x02 && t.P == 0x00 && t.ram 0x02FFFF == 0x5A) = true := by decide

/-- R351: IRQ masked by P.I=1: the NOP executes; IrqPending stays 1. -/
theorem test_T60_1_irq_masked :
    ends { start with P := 0x04, irqPending := true } [0xEA] []
      (fun t => t.PC == 0x8001 && t.P == 0x04 && t.irqPending) = true := by decide

/-- R388: IRQ native: frame PBR,PC,P; vector $00:FFEE; NOP not fetched. -/
theorem test_T60_2_irq_native :
    ends { start with P := 0x09, irqPending := true, PBR := 0x12 } [0xEA] [(0x00FFEE, 0x00), (0x00FFEF, 0xC0)]
      (fun t => t.SP == 0x1FFB && t.PC == 0xC000 && t.PBR == 0x00 && t.P == 0x05 && !t.irqPending && t.ram 0x001FFF == 0x12 && t.ram 0x001FFE == 0x80 && t.ram 0x001FFD == 0x00 && t.ram 0x001FFC == 0x09) = true := by decide

/-- R388: IRQ emulation: pushed P has bit 5 set, bit 4 clear; vector $00:FFFE. -/
theorem test_T60_3_irq_emulation :
    ends { start with SP := 0x01FF, P := 0x33, E := true, irqPending := true } [0xEA] [(0x00FFFE, 0x00), (0x00FFFF, 0xC0)]
      (fun t => t.SP == 0x01FC && t.PC == 0xC000 && t.P == 0x37 && !t.irqPending && t.ram 0x0001FF == 0x80 && t.ram 0x0001FE == 0x00 && t.ram 0x0001FD == 0x23) = true := by decide

/-- R388: NMI native is not masked by P.I; vector $00:FFEA. -/
theorem test_T60_4_nmi_native :
    ends { start with P := 0x0C, nmiPending := true, PBR := 0x12 } [0xEA] [(0x00FFEA, 0x00), (0x00FFEB, 0xD0)]
      (fun t => t.SP == 0x1FFB && t.PC == 0xD000 && t.PBR == 0x00 && t.P == 0x04 && !t.nmiPending && t.ram 0x001FFF == 0x12 && t.ram 0x001FFE == 0x80 && t.ram 0x001FFD == 0x00 && t.ram 0x001FFC == 0x0C) = true := by decide

/-- R388: NMI emulation: vector $00:FFFA; pushed P = $24. -/
theorem test_T60_5_nmi_emulation :
    ends { start with SP := 0x01FF, P := 0x34, E := true, nmiPending := true } [0xEA] [(0x00FFFA, 0x00), (0x00FFFB, 0xD0)]
      (fun t => t.SP == 0x01FC && t.PC == 0xD000 && t.P == 0x34 && !t.nmiPending && t.ram 0x0001FF == 0x80 && t.ram 0x0001FE == 0x00 && t.ram 0x0001FD == 0x24) = true := by decide

/-- R178, its example: `P.X = 1`, `Y = $0000`. -/
theorem test_R178_tyx :
    ends { start with P := 0x10, X := 0x0012 } [0xBB] [] (fun t => t.X == 0x0000 && t.P == 0x12 && t.PC == 0x8001) = true := by decide

/-- R174: `P.M = 1` keeps `A.h` ("as rule R173"). -/
theorem test_R174_tya :
    ends { start with P := 0x20, A := 0xAB00, Y := 0x00FF } [0x98] [] (fun t => t.A == 0xABFF && t.P == 0xA0) = true := by decide

/-- R166, its example: `P.X = 0`, `Y = $1234`, `8C 00 20`. -/
theorem test_R166_sty :
    ends { start with Y := 0x1234 } [0x8C, 0x00, 0x20] []
      (fun t => t.ram 0x002000 == 0x34 && t.ram 0x002001 == 0x12 && t.P == 0x00) = true := by decide

/-- R163, its example: `P.X = 1`, `A0 00`. -/
theorem test_R163_ldy :
    ends { start with P := 0x10, Y := 0x0012 } [0xA0, 0x00] [] (fun t => t.Y == 0x0000 && t.P == 0x12 && t.PC == 0x8002) = true := by decide

/-- R374, its example, step 1: `44 01 00` copies `$00:2001` to `$01:3001` and goes down. -/
theorem test_R374_mvp :
    ends { start with A := 0x0001, X := 0x2001, Y := 0x3001 } [0x44, 0x01, 0x00] [(0x2001, 0x22)]
      (fun t => t.A == 0x0000 && t.X == 0x2000 && t.Y == 0x3000 && t.PC == 0x8000 && t.ram 0x013001 == 0x22 &&
        t.mv == .active .down 0x01 0x00) = true := by decide

/-- R60: an answer of the port that is not what RAM holds is what the instruction sees. -/
theorem test_R60_scripted_answer :
    ends { start with P := 0x20, script := [none, none, some 0x77] } [0xA5, 0x10] [(0x10, 0x55)]
      (fun t => t.A == 0x0077 && t.ram 0x000010 == 0x55 && t.script == []) = true := by decide

/-! ## Hypotheses met: one theorem per obligation that has any -/

/-- Emulation mode at `$00:8000`, legal for R36. -/
def emu : State :=
  { start with E := true, P := 0x30, SP := 0x01FF }

/-- A state about to fetch an instruction across the end of its bank, with a masked IRQ pending. -/
def edge : State :=
  { start with P := 0x04, PC := 0xFFFF, PBR := 0x12, irqPending := true, mem := [(0x120000, 0x7F), (0x120001, 0x7E), (0x12FFFF, 0x54)] }

theorem witness_DecodeOfEncodeIsTheInstruction :
    (Instr.ldaImm (.b16 0x1234)).wellFormed false true = true ∧ (Instr.cpxImm (.b8 0x12)).wellFormed false true = true := by decide

theorem witness_EncodeOfDecodeIsTheBytes : decode true true [0xA9, 0x12, 0xEA] = .ok (.ldaImm (.b8 0x12), [0xEA]) := by decide

theorem witness_LengthDependsOnWidthsOnlyForTwelveImmediates :
    Instr.nop.wellFormed true true = true ∧ (Instr.ldaLong 0x123456).wellFormed false false = true ∧
      (∃ m x m' x' : Bool, operandCount 0xA2 m x ≠ operandCount 0xA2 m' x') :=
  ⟨by decide, by decide, true, true, true, false, by decide⟩

theorem edge_fetches : edge.Fetches :=
  ⟨rfl, rfl, rfl, Or.inr (by decide), rfl⟩

theorem edge_holds : edge.HoldsAt edge.PC (encode (.mvn 0x7F 0x7E)) :=
  ⟨by decide, by decide, by decide, trivial⟩

theorem witness_StepRunsTheDecodedInstruction :
    edge.Fetches ∧ edge.script = [] ∧ (Instr.mvn 0x7F 0x7E).wellFormed (edge.flag .M) (edge.flag .X) = true ∧
      edge.HoldsAt edge.PC (encode (.mvn 0x7F 0x7E)) :=
  ⟨edge_fetches, rfl, by decide, edge_holds⟩

theorem witness_StepRunsTheAnsweredInstruction :
    State.Fetches { edge with script := [some 0xA9, some 0x34, some 0x12, none] } ∧
      (Instr.ldaImm (.b16 0x1234)).wellFormed (edge.flag .M) (edge.flag .X) = true ∧
      [some 0xA9, some 0x34, some 0x12, none] = (encode (.ldaImm (.b16 0x1234))).map some ++ [none] :=
  ⟨⟨rfl, rfl, rfl, Or.inr (by decide), rfl⟩, by decide, by decide⟩

theorem witness_EveryStepAnswersANextState :
    (let s := { start with waiting := true }
     s.waiting = true ∧ s.nmiPending = false ∧ s.irqPending = false) ∧
    (let s := { start with stopped := true }
     s.stopped = true ∧ ∃ t, perform (.reset ⟨0, 0, 0, 0, false, false, false, false⟩) s = .next t ∧ t.stopped = false) :=
  ⟨⟨rfl, rfl, rfl⟩, rfl, _, rfl, rfl⟩

theorem witness_StoppedStepChangesNothing : State.stopped { start with stopped := true, nmiPending := true } = true := rfl

theorem witness_WaitingStepWakesOnlyOnAssertion :
    (let s := { start with waiting := true }
     s.stopped = false ∧ s.waiting = true ∧ s.nmiPending = false ∧ s.irqPending = false) ∧
    (let s := { start with waiting := true, nmiPending := true, irqPending := true }
     s.stopped = false ∧ s.waiting = true ∧ s.nmiPending = true) ∧
    (let s := { start with waiting := true, irqPending := true }
     s.stopped = false ∧ s.waiting = true ∧ s.nmiPending = false ∧ s.irqPending = true ∧ s.flag .I = false) ∧
    (let s := { start with waiting := true, irqPending := true, P := 0x04 }
     s.stopped = false ∧ s.waiting = true ∧ s.nmiPending = false ∧ s.irqPending = true ∧ s.flag .I = true) := by decide

theorem witness_NmiBeforeIrqAndIrqMaskedByI :
    (let s := { start with nmiPending := true, irqPending := true }
     s.stopped = false ∧ s.waiting = false ∧ s.nmiPending = true) ∧
    (let s := { start with irqPending := true }
     s.stopped = false ∧ s.waiting = false ∧ s.nmiPending = false ∧ s.irqPending = true ∧ s.flag .I = false) ∧
    (edge.stopped = false ∧ edge.waiting = false ∧ edge.nmiPending = false ∧ edge.irqPending = true ∧ edge.flag .I = true) := by
  decide

theorem witness_ResetLeavesTheSpecifiedValues : emu.script = [] := rfl

theorem witness_ResetEstablishesTheInvariant : edge.mem.wf = true := by decide

theorem emu_inv : emu.Inv :=
  ⟨by decide, by decide, by decide, by decide⟩

/-- The same in the middle of a block move with 8-bit index registers. -/
def moving : State :=
  { start with P := 0x10, A := 0x0001, X := 0x00FF, Y := 0x0000, mv := .active .up 0x7F 0x7E }

theorem moving_inv : moving.Inv :=
  ⟨by decide, by decide, by decide, by decide⟩

theorem witness_StepKeepsTheInvariant : (emu.Inv ∧ ∃ t, step emu = .next t) ∧ moving.Inv ∧ ∃ t, step moving = .next t :=
  ⟨⟨emu_inv, _, rfl⟩, moving_inv, _, rfl⟩

theorem witness_EveryEventKeepsTheInvariant : emu.Inv ∧ (∃ t, perform (.busWrite 0xFFFFFF 0x12) emu = .next t) ∧
    (∃ t, perform (.reset ⟨0x1234, 0xFF, 0x00, 0xFF, true, false, true, false⟩) emu = .next t) ∧
    ∃ t, perform .executeOne emu = .next t :=
  ⟨emu_inv, ⟨_, rfl⟩, ⟨_, rfl⟩, _, rfl⟩

/-- `exec` answers a next state that passes a check. -/
def goes (i : Instr) (s : State) (check : State → Bool) : Bool :=
  match exec i s with
  | .next t => check t
  | _ => false

theorem witness_OnlyLongTransfersWritePbr :
    (goes (.jmlLong 0x123456) start (fun t => t.PBR != start.PBR) && goes .rtl { start with PBR := 0x12 } (fun t => t.PBR != 0x12) &&
      goes .rti { start with PBR := 0x12 } (fun t => t.PBR != 0x12) &&
      goes (.brk 0) { start with PBR := 0x12 } (fun t => t.PBR != 0x12)) = true := by decide

theorem witness_OnlyXceChangesTheMode :
    (goes .xce { start with P := 0x01 } (fun t => t.E != start.E) &&
      ends { start with P := 0x01 } [0xFB] [] (fun t => t.E != start.E)) = true := by decide

theorem witness_WritersOfDbrDAndSp :
    (goes (.mvn 0x7F 0x7E) start (fun t => t.DBR != start.DBR) && goes .tcd { start with A := 0x1234 } (fun t => t.D != start.D) &&
      goes .pha start (fun t => t.SP != start.SP)) = true := by decide

theorem witness_WritersOfEachFlag :
    (goes (.ldaImm (.b16 0x8000)) start (fun t => t.flag .N) && goes (.adcImm (.b16 0x7FFF)) { start with A := 1 } (fun t => t.flag .V) &&
      goes (.sep 0x30) start (fun t => t.flag .M && t.flag .X) && goes .sed start (fun t => t.flag .D) &&
      goes .sei start (fun t => t.flag .I) && goes (.ldaImm (.b16 0)) start (fun t => t.flag .Z) &&
      goes .sec start (fun t => t.flag .C)) = true := by decide

theorem witness_OnlyStoringInstructionsChangeMemory :
    (goes (.staDp 0x10) { start with A := 0x1234 } (fun t => t.mem != start.mem) &&
      goes (.incDp 0x10) start (fun t => t.mem != start.mem)) = true := by decide

theorem witness_WritersOfTheControlSubState :
    (goes .wai start (fun t => t.waiting != start.waiting) && goes .stp start (fun t => t.stopped != start.stopped) &&
      goes (.mvp 0x7F 0x7E) { start with A := 0x0001 } (fun t => t.mv != start.mv)) = true := by decide

theorem witness_PortReadAnswersAndIsRecorded :
    State.script { start with script := [some 0x12] } = some 0x12 :: [] ∧
      State.script { start with script := [none, some 0x12] } = none :: [some 0x12] ∧ start.script = [] :=
  ⟨rfl, rfl, rfl⟩

theorem witness_WordStoreReadsBackLittleEndian : edge.mem.wf = true ∧ edge.script = [] := by decide

theorem witness_EffectiveAddressesThroughPointer : edge.script = [] := rfl

theorem witness_OperandIsTheLiteralOrTheBytesAtItsAddress : edge.script = [] := rfl

theorem witness_PullUndoesPush :
    (edge.mem.wf = true ∧ edge.script = [] ∧ (edge.E = true → hi8 edge.SP = 0x01)) ∧
      (let s := { emu with SP := 0x0100 }
       s.mem.wf = true ∧ s.script = [] ∧ (s.E = true → hi8 s.SP = 0x01)) := by decide

theorem witness_SetNzAndSetPWriteTheirFlags :
    start.E = false ∧ emu.E = true ∧ (start.setP 0x10).flag .X = true ∧ (start.setP 0x00).flag .X = false := by decide

theorem witness_LdaLoadsTheAccumulator : (Instr.ldaISrY 0x02).mnemonic = .LDA := rfl

theorem witness_LdxAndLdyLoadTheIndex : (Instr.ldxDpY 0x02).mnemonic = .LDX ∧ (Instr.ldyAbsX 0x1234).mnemonic = .LDY := ⟨rfl, rfl⟩

theorem witness_StoresWriteOnlyTheirBytes :
    (Instr.staILDpY 0x10).mnemonic ∈ [Mnemonic.STA, .STX, .STY, .STZ] ∧ (Instr.stxDpY 0x10).mnemonic = .STX ∧
      (Instr.styAbs 0x1234).mnemonic = .STY ∧ (Instr.stzAbsX 0xFFFF).mnemonic = .STZ := by decide

theorem witness_LogicWritesTheAccumulator :
    (Instr.oraDp 0).mnemonic = .ORA ∧ (Instr.andLong 0).mnemonic = .AND ∧ (Instr.eorImm (.b8 1)).mnemonic = .EOR := ⟨rfl, rfl, rfl⟩

theorem witness_AdcBinaryAddsWithCarry : (Instr.adcAbs 0x1234).mnemonic = .ADC ∧ start.flag .D = false := by decide

theorem witness_SbcBinarySubtractsWithBorrow : (Instr.sbcAbs 0x1234).mnemonic = .SBC ∧ start.flag .D = false := by decide

theorem witness_DecimalAddAndSubtract :
    (Instr.adcImm (.b16 0x9999)).mnemonic = .ADC ∧ (Instr.sbcImm (.b16 0x9999)).mnemonic = .SBC ∧
      (let s := { start with P := 0x08, A := 0x1999 }
       s.flag .D = true ∧ validBcd 4 (s.readA s.wM).toNat ∧ validBcd 4 (s.readSource (.imm (.b16 0x9999)) s.wM).1.toNat) ∧
      (let s := { start with P := 0x28, A := 0xFF99 }
       s.flag .D = true ∧ validBcd 2 (s.readA s.wM).toNat ∧ validBcd 2 (s.readSource (.imm (.b8 0x01)) s.wM).1.toNat) := by
  refine ⟨rfl, rfl, ⟨by decide, ?_, ?_⟩, by decide, ?_, ?_⟩ <;> simp [validBcd] <;> decide

theorem witness_ShiftsRotatesAndStepsModifyTheirTarget :
    Instr.aslAcc.mnemonic = .ASL ∧ (Instr.lsrDp 0).mnemonic = .LSR ∧ (Instr.rolAbs 0).mnemonic = .ROL ∧
      (Instr.rorAbsX 0).mnemonic = .ROR ∧ (Instr.incDpX 0).mnemonic = .INC ∧ Instr.decAcc.mnemonic = .DEC :=
  ⟨rfl, rfl, rfl, rfl, rfl, rfl⟩

theorem witness_ComparesSetFlagsOnly :
    (Instr.cmpIDp 0).mnemonic = .CMP ∧ (Instr.cpxImm (.b8 0)).mnemonic = .CPX ∧ (Instr.cpyAbs 0).mnemonic = .CPY := ⟨rfl, rfl, rfl⟩

theorem witness_BitTestsItsOperand :
    (Instr.bitImm (.b8 0)).mnemonic = .BIT ∧ (Instr.bitImm (.b8 0)).format = .IMMM ∧ (Instr.bitAbsX 0).format ≠ .IMMM := by decide

theorem witness_TsbAndTrbSetAndResetBits : (Instr.tsbDp 0).mnemonic = .TSB ∧ (Instr.trbAbs 0).mnemonic = .TRB := ⟨rfl, rfl⟩

theorem witness_JumpsLoadTheirTarget : start.script = [] := rfl

theorem witness_ReturnAfterCallComesBack :
    let s := { emu with SP := 0x0100 }
    s.mem.wf = true ∧ s.script = [] ∧ (s.E = true → hi8 s.SP = 0x01) ∧
      (∃ t u, exec (.jsl 0x123456) s = .next t ∧ exec .rtl t = .next u) ∧
      (∃ t u, exec (.jsrAbs 0x1234) s = .next t ∧ exec .rts t = .next u) ∧
      ∃ t u, exec (.jsrIAbsX 0xFFFF) s = .next t ∧ exec .rts t = .next u :=
  ⟨by decide, rfl, by decide, ⟨_, _, rfl, rfl⟩, ⟨_, _, rfl, rfl⟩, _, _, rfl, rfl⟩

theorem witness_FlagNopWaitAndStopInstructions : start.nmiPending = false ∧ start.irqPending = false := ⟨rfl, rfl⟩

theorem witness_RepSepAndPlpWriteP : (∃ t, exec (.rep 0xFF) emu = .next t) ∧ ∃ t, exec (.sep 0x30) start = .next t :=
  ⟨⟨_, rfl⟩, _, rfl⟩

theorem witness_XceExchangesCarryAndEmulation :
    start.flag .C = false ∧ State.flag { start with P := 0x01 } .C = true := by decide

theorem witness_SoftwareInterruptsTakeTheirVector :
    ((Instr.brk 0x12 = .brk 0x12 ∧ InterruptKind.brk = .brk) ∨ (Instr.brk 0x12 = .cop 0x12 ∧ InterruptKind.brk = .cop)) ∧
      ((Instr.cop 0x12 = .brk 0x12 ∧ InterruptKind.cop = .brk) ∨ (Instr.cop 0x12 = .cop 0x12 ∧ InterruptKind.cop = .cop)) :=
  ⟨Or.inl ⟨rfl, rfl⟩, Or.inr ⟨rfl, rfl⟩⟩

theorem witness_HardwareInterruptsTakeTheirVector :
    InterruptKind.irq ∈ [InterruptKind.irq, .nmi] ∧ InterruptKind.nmi ∈ [InterruptKind.irq, .nmi] ∧
      start.E = false ∧ emu.E = true := by decide

theorem witness_RtiPullsStatusThenProgramCounter : start.E = false ∧ emu.E = true := ⟨rfl, rfl⟩

theorem witness_RtiRestoresTheInterruptedState : emu.Inv ∧ emu.script = [] ∧ moving.Inv ∧ moving.script = [] :=
  ⟨emu_inv, rfl, moving_inv, rfl⟩

theorem witness_BlockMoveStepMovesOneByte_first :
    let s := { start with A := 0x0000 }
    let s' := { s with PC := s.PC - 3, mv := .active .down 0x7F 0x7E }
    exec (.mvp 0x7F 0x7E) s = exec (.mvp 0x7F 0x7E) s ∧ s'.PC = s.PC - 3 ∧
      s' = { s with PC := s'.PC, mv := .active .down 0x7F 0x7E } :=
  ⟨rfl, rfl, rfl⟩

theorem witness_BlockMoveStepMovesOneByte_later :
    moving.stopped = false ∧ moving.waiting = false ∧ moving.nmiPending = false ∧
      (moving.irqPending = false ∨ moving.flag .I = true) ∧ moving.mv = .active .up 0x7F 0x7E :=
  ⟨rfl, rfl, rfl, Or.inl rfl, rfl⟩

theorem witness_BlockMoveCopiesCountPlusOneBytes :
    edge.Fetches ∧ edge.script = [] ∧ edge.mem.wf = true ∧ (edge.flag .X = true → hi8 edge.X = 0 ∧ hi8 edge.Y = 0) ∧
      edge.HoldsAt edge.PC (encode (.mvn 0x7F 0x7E)) ∧ (0x7F : Byte) ≠ 0x7E :=
  ⟨edge_fetches, rfl, by decide, by decide, edge_holds, by decide⟩

theorem witness_EachBlockMoveStepCostsSeven :
    moving.mv ≠ .idle ∧ edge.mv = .idle ∧ edge.fetch.1.mnemonic ∈ [Mnemonic.MVN, .MVP] := by decide

end Sys2Proof.Tests
end

/-! ## The step, stage by stage (30_encoding.md R90) -/

namespace Sys2Proof.Machine

/-- Stage 7: the meaning of every constructor is a next state (00_scope.md R6). -/
theorem exec_next (i : Instr) (s : State) : ∃ t, exec i s = .next t := by
  cases i <;> exact ⟨_, rfl⟩

theorem State.wake_of_nothing_pending {s : State} (hw : s.waiting = true) (hn : s.nmiPending = false)
    (hi : s.irqPending = false) : s.wake = none := by
  simp [State.wake, hw, hn, hi]

theorem State.proceed_of_idle {s : State} (hmv : s.mv = .idle) : s.proceed = exec s.fetch.1 s.fetch.2 := by
  simp [State.proceed, hmv]

theorem State.proceed_of_active {s : State} {dir : Direction} {dst src : Byte} (hmv : s.mv = .active dir dst src) :
    s.proceed = .next (s.blockStep dir dst src) := by
  simp [State.proceed, hmv]

/-- Stage 1. -/
theorem step_of_stopped {s : State} (h : s.stopped = true) : step s = .next s := by
  simp [step, State.sequence, h]

/-- Stage 2, when the engine goes on waiting. -/
theorem step_of_wake_none {s : State} (h : s.stopped = false) (hw : s.wake = none) : step s = .next s := by
  simp [step, State.sequence, h, hw]

/-- Stages 3 and 4, when an interrupt is taken. -/
theorem step_of_service_some {s w t : State} (h : s.stopped = false) (hw : s.wake = some w) (ht : w.service = some t) :
    step s = .next t := by
  simp [step, State.sequence, h, hw, ht]

/-- Stages 5 to 7, when no interrupt is taken. -/
theorem step_of_service_none {s w : State} (h : s.stopped = false) (hw : s.wake = some w) (ht : w.service = none) :
    step s = w.proceed := by
  simp [step, State.sequence, h, hw, ht]

theorem State.proceed_next (s : State) : ∃ t, s.proceed = .next t := by
  cases hmv : s.mv with
  | idle => exact State.proceed_of_idle hmv ▸ exec_next _ _
  | active dir dst src => exact ⟨_, State.proceed_of_active hmv⟩

theorem step_next (s : State) : ∃ t, step s = .next t := by
  cases hs : s.stopped with
  | true => exact ⟨s, step_of_stopped hs⟩
  | false =>
    cases hw : s.wake with
    | none => exact ⟨s, step_of_wake_none hs hw⟩
    | some w =>
      cases ht : w.service with
      | some t => exact ⟨t, step_of_service_some hs hw ht⟩
      | none => exact step_of_service_none hs hw ht ▸ w.proceed_next

/-- A step with nothing to do (R33, R392). `Stopped` comes first in R90, so waiting does not matter then. -/
theorem step_of_stopped_or_waiting {s : State}
    (h : s.stopped = true ∨ s.waiting = true ∧ s.nmiPending = false ∧ s.irqPending = false) : step s = .next s := by
  cases hs : s.stopped with
  | true => exact step_of_stopped hs
  | false =>
    obtain h | ⟨hw, hn, hi⟩ := h
    · simp [hs] at h
    · exact step_of_wake_none hs (State.wake_of_nothing_pending hw hn hi)

/-- Every event but a reset leaves a stopped engine stopped: a step is stage 1, the others write other fields. -/
theorem perform_keeps_stopped {ev : Event} {s t : State} (hs : s.stopped = true) (hp : perform ev s = .next t)
    (hr : ∀ d, ev ≠ .reset d) : t.stopped = true := by
  cases ev with
  | executeOne =>
    obtain rfl : s = t := Host.Outcome.next.inj ((step_of_stopped hs).symm.trans hp)
    exact hs
  | reset d => exact absurd rfl (hr d)
  | assertIrq | assertNmi | busWrite | answers =>
    cases hp
    exact hs

/-- Settles O8: no stage of a step and no meaning faults or refuses, and of the events only a reset writes `Stopped` in a
stopped engine. -/
theorem everyStepAnswersANextState : Obligations.EveryStepAnswersANextState := by
  refine ⟨exec_next, step_next, fun _ => step_of_stopped_or_waiting, fun ev s t hs hp ht => ?_⟩
  by_contra hr
  have hkept : t.stopped = true := perform_keeps_stopped hs hp fun d h => hr ⟨d, h⟩
  simp [ht] at hkept

end Sys2Proof.Machine

/-! ## `SetNZ` and `SetP` (10_state.md R28, R29) -/

namespace Sys2Proof.Machine

/-- `(v & mask(w)) = 0`, the condition of R28, as arithmetic. -/
theorem masked_eq_zero_iff (v : Word) (w : Width) : v &&& w.mask = 0 ↔ v.toNat % 2 ^ w.bits = 0 := by
  rw [← toNat_and_mask]
  exact BitVec.toNat_inj.symm

theorem State.flag_setNZ (s : State) (v : Word) (w : Width) (f : Flag) :
    (s.setNZ v w).flag f =
      if f = .Z then decide (v.toNat % 2 ^ w.bits = 0) else if f = .N then topBit v w else s.flag f := by
  simp only [State.flag, State.setNZ_P, getFlag_setNZ, masked_eq_zero_iff]

theorem State.setNZ_keepsFlags (s : State) (v : Word) (w : Width) : KeepsFlags [.N, .Z] s (s.setNZ v w) := by
  intro f hf
  obtain ⟨hN, hZ⟩ : f ≠ .N ∧ f ≠ .Z := by simpa using hf
  rw [State.flag_setNZ, if_neg hZ, if_neg hN]

theorem State.flag_setP (s : State) (p : Byte) (f : Flag) :
    (s.setP p).flag f = (getFlag p f || (s.E && (f == .M || f == .X))) :=
  getFlag_forceWidths s.E p f

/-- In native mode `SetP` writes the byte as given. -/
theorem State.setP_P_of_native {s : State} (hE : s.E = false) (p : Byte) : (s.setP p).P = p := by
  simp [forceWidths, hE]

theorem toNat_clipIndex_of_set {p : Byte} (h : getFlag p .X = true) (v : Word) :
    (clipIndex p v).toNat = v.toNat % 256 := by
  rw [clipIndex, if_pos h, toNat_and_mask8]

/-- Settles O29, by the flags each of the two operations leaves and by `clipIndex`, which follows the X that `SetP` wrote. -/
theorem setNzAndSetPWriteTheirFlags : Obligations.SetNzAndSetPWriteTheirFlags := by
  refine ⟨fun s v w => ⟨rfl, ?_, ?_, s.setNZ_keepsFlags v w⟩, fun s p => ⟨rfl, ?_, ?_, ?_, ?_⟩⟩
  · exact s.flag_setNZ v w .N
  · simp [State.flag_setNZ]
  · exact fun hE => State.setP_P_of_native hE p
  · intro hE
    refine ⟨by simp [State.flag_setP, hE], by simp [State.flag_setP, hE], fun f hM hX => ?_⟩
    simp [State.flag_setP, hM, hX]
  · exact fun hX => ⟨toNat_clipIndex_of_set hX s.X, toNat_clipIndex_of_set hX s.Y⟩
  · exact fun hX => ⟨clipIndex_of_clear _ s.X hX, clipIndex_of_clear _ s.Y hX⟩

end Sys2Proof.Machine

/-! ## Cells, formats and lengths (30_encoding.md R92 to R96) -/

namespace Sys2Proof.Laws

/-- What the decoder says of an opcode byte by its cell alone: mnemonic and format, as the matrix of R96 lists them. -/
def cellOf (op : Byte) (f : Fields) : Mnemonic × Format :=
  ((decodeOpcode op f).mnemonic, (decodeOpcode op f).format)

/-- The cell does not depend on what follows the opcode: the answer has the opcode it was read from, and an opcode fixes
mnemonic and format. -/
theorem cellOf_congr (op : Byte) (f g : Fields) : cellOf op f = cellOf op g := by
  have hcell : cellOf (decodeOpcode op f).opcode g = cellOf op f :=
    congrArg₂ Prod.mk (mnemonic_of_opcode _ g) (format_of_opcode _ g)
  rw [← hcell, opcode_decodeOpcode]

/-- Fields to read a cell with: any would do (`cellOf_congr`). -/
def noFields : Fields :=
  ⟨0, 0, 0, false, false⟩

theorem length_opcodeMatrix : opcodeMatrix.length = 256 := by
  simp only [opcodeMatrix, List.length_append]
  rfl

theorem opcodeMatrix_getElem?_toNat : ∀ op : Byte, opcodeMatrix[op.toNat]? = some (cellOf op noFields) := by
  decide

/-- Settles O3: a cell does not depend on the fields, and without them the 256 cells are compared one by one. -/
theorem opcodeMatrixGivesMnemonicAndFormat : Obligations.OpcodeMatrixGivesMnemonicAndFormat :=
  ⟨length_opcodeMatrix, fun op f => (opcodeMatrix_getElem?_toNat op).trans (congrArg some (cellOf_congr op noFields f))⟩

/-- R94: the number of operand bytes is its format's. -/
theorem operandCount_eq_of_format {op : Byte} {f : Fields} {k : Format} (h : (decodeOpcode op f).format = k) (m x : Bool) :
    operandCount op m x = k.operandBytes m x := by
  have hk : (decodeOpcode op ⟨0, 0, 0, m, x⟩).format = k := (congrArg Prod.snd (cellOf_congr op _ f)).trans h
  rw [operandCount, hk]

theorem operandCount_opcode (i : Instr) (m x : Bool) : operandCount i.opcode m x = i.format.operandBytes m x := by
  rw [operandCount, format_of_opcode]

theorem operandBytes_le (k : Format) (m x : Bool) : k.operandBytes m x ≤ 3 := by
  cases k with
  | IMMM => cases m <;> exact Nat.le_of_ble_eq_true rfl
  | IMMX => cases x <;> exact Nat.le_of_ble_eq_true rfl
  | _ => exact Nat.le_of_ble_eq_true rfl

/-- A well-formed operand has as many bytes as its format asks for under the width flags. -/
theorem length_bytes_of_wellFormed {m x : Bool} {o : Operand} (h : o.wellFormed m x = true) :
    o.bytes.length = o.format.operandBytes m x := by
  cases o with
  | immM v => exact (immM_length m x v (eq_of_beq h)).symm
  | immX v => exact (immX_length m x v (eq_of_beq h)).symm
  | data mode => cases mode <;> rfl
  | _ => rfl

theorem length_encode {m x : Bool} {i : Instr} (h : i.wellFormed m x = true) :
    (encode i).length = 1 + operandCount i.opcode m x := by
  rw [operandCount_opcode, Instr.format, ← length_bytes_of_wellFormed h, encode, List.length_cons, Nat.add_comm]

/-- R94: the formats whose length the width flags decide. -/
theorem operandBytes_varies_iff (k : Format) :
    (∃ m x m' x' : Bool, k.operandBytes m x ≠ k.operandBytes m' x') ↔ k = .IMMM ∨ k = .IMMX := by
  cases k <;> decide

/-- R95: the eight immediates whose length `P.M` decides. -/
def immMOpcodes : List Byte :=
  [0x09, 0x29, 0x49, 0x69, 0x89, 0xA9, 0xC9, 0xE9]

/-- R95: the four immediates whose length `P.X` decides. -/
def immXOpcodes : List Byte :=
  [0xA0, 0xA2, 0xC0, 0xE0]

theorem format_eq_immM_iff : ∀ op : Byte, (decodeOpcode op noFields).format = .IMMM ↔ op ∈ immMOpcodes := by
  decide

theorem format_eq_immX_iff : ∀ op : Byte, (decodeOpcode op noFields).format = .IMMX ↔ op ∈ immXOpcodes := by
  decide

/-- R95: an operand count that varies is one of those two formats'. -/
theorem operandCount_varies_iff (op : Byte) :
    (∃ m x m' x' : Bool, operandCount op m x ≠ operandCount op m' x') ↔ op ∈ immMOpcodes ++ immXOpcodes := by
  simp only [operandCount_eq_of_format (f := noFields) rfl]
  rw [operandBytes_varies_iff, format_eq_immM_iff, format_eq_immX_iff, List.mem_append]

/-- Settles O4, by the format of an opcode's cell: it alone decides the operand count, and only IMMM and IMMX read the
width flags. -/
theorem lengthDependsOnWidthsOnlyForTwelveImmediates : Obligations.LengthDependsOnWidthsOnlyForTwelveImmediates := by
  refine ⟨fun m x i h => ?_, operandCount_varies_iff, fun m x => ⟨fun op h => ?_, fun op h => ?_⟩⟩
  · have hlen : (encode i).length = 1 + operandCount i.opcode m x := length_encode h
    have hle : operandCount i.opcode m x ≤ 3 := operandCount_opcode i m x ▸ operandBytes_le _ m x
    omega
  · exact operandCount_eq_of_format ((format_eq_immM_iff op).mpr h) m x
  · exact operandCount_eq_of_format ((format_eq_immX_iff op).mpr h) m x

end Sys2Proof.Laws

/-! ## Loads, stores and transfers (41_load_store_transfer.md R160 to R184) -/

namespace Sys2Proof.Machine

/-! ### The effect of a mnemonic with several forms -/

/-- What holds of the effect on every source operand holds of the instruction on its own operand. -/
theorem ReadsSource.spec_of_effect {f : Source → State → State} {i : Instr} (h : ReadsSource f i) {s : State}
    {Q : Source → State → Prop} (hf : ∀ src, Q src (f src s)) :
    ∃ src, i.operand.source? = some src ∧ ∃ t, exec i s = .next t ∧ Q src t := by
  obtain ⟨src, hsrc, hexec⟩ := h
  exact ⟨src, hsrc, f src s, hexec s, hf src⟩

/-- What holds of the effect on every memory form holds of the instruction on its own operand. -/
theorem UsesMode.spec_of_effect {f : DataMode → State → State} {i : Instr} (h : UsesMode f i) {s : State}
    {Q : DataMode → State → Prop} (hf : ∀ mode, Q mode (f mode s)) :
    ∃ mode, i.operand.mode? = some mode ∧ ∃ t, exec i s = .next t ∧ Q mode t := by
  obtain ⟨mode, hmode, hexec⟩ := h
  exact ⟨mode, hmode, f mode s, hexec s, hf mode⟩

/-! ### What a written register and `SetNZ` leave behind -/

/-- R28: `SetNZ` of a value that fits its width writes N and Z from the value itself, and no other flag. -/
theorem flags_of_setNZ {s t : State} {v : Word} {w : Width} (hP : t.P = setNZ s.P v w) (hv : Fits v w) :
    FlagsNZ v w t ∧ KeepsFlags [.N, .Z] s t := by
  have hflag (f : Flag) : t.flag f = (s.setNZ v w).flag f := congrArg (getFlag · f) hP
  refine ⟨⟨?_, ?_⟩, fun f hf => (hflag f).trans (s.setNZ_keepsFlags v w f hf)⟩
  · simp [hflag, State.flag_setNZ]
  · rw [State.flag, hP, getFlag_setNZ, if_pos rfl, mask_of_fits v w hv]

/-- R22: `WriteA` of a value that fits its width. -/
theorem accumulatorIs_of_mergeA {s t : State} {v : Word} {w : Width} (hA : t.A = mergeA s.A v w) (hv : Fits v w) :
    AccumulatorIs v w s t := by
  refine ⟨?_, ?_⟩
  · rw [State.readA, hA, mergeA_value s.A v w hv]
  · rintro rfl
    rw [hA, hi8_mergeA_w8]

/-! ### Loads -/

theorem lda_spec (src : Source) (s : State) :
    lda src s = { s with
      A := (lda src s).A
      P := (lda src s).P
      script := (s.readSource src s.wM).2.script
      trace := (s.readSource src s.wM).2.trace } ∧
    AccumulatorIs (s.readSource src s.wM).1 s.wM s (lda src s) ∧
      FlagsNZ (s.readSource src s.wM).1 s.wM (lda src s) ∧ KeepsFlags [.N, .Z] s (lda src s) := by
  have hfits := s.readSource_fits src s.wM
  rw [lda_eq]
  exact ⟨rfl, accumulatorIs_of_mergeA rfl hfits, flags_of_setNZ rfl hfits⟩

theorem ldx_spec (src : Source) (s : State) :
    ldx src s = { s with
      X := (s.readSource src s.wX).1
      P := (ldx src s).P
      script := (s.readSource src s.wX).2.script
      trace := (s.readSource src s.wX).2.trace } ∧
    FlagsNZ (s.readSource src s.wX).1 s.wX (ldx src s) ∧ KeepsFlags [.N, .Z] s (ldx src s) := by
  rw [ldx_eq]
  exact ⟨rfl, flags_of_setNZ rfl (s.readSource_fits src s.wX)⟩

theorem ldy_spec (src : Source) (s : State) :
    ldy src s = { s with
      Y := (s.readSource src s.wX).1
      P := (ldy src s).P
      script := (s.readSource src s.wX).2.script
      trace := (s.readSource src s.wX).2.trace } ∧
    FlagsNZ (s.readSource src s.wX).1 s.wX (ldy src s) ∧ KeepsFlags [.N, .Z] s (ldy src s) := by
  rw [ldy_eq]
  exact ⟨rfl, flags_of_setNZ rfl (s.readSource_fits src s.wX)⟩

/-- Settles O30: the fifteen cells are read off the matrix, and every form has the effect `lda` on its own operand. -/
theorem ldaLoadsTheAccumulator : Obligations.LdaLoadsTheAccumulator := by
  refine ⟨Laws.hasOpcodes_of _ _ (by decide), fun i s h => ?_⟩
  have hform : ReadsSource lda i := by simpa only [h] using exec_forms i
  exact hform.spec_of_effect fun src => lda_spec src s

/-- Settles O31: the cells are read off the matrix, and every form has the effect `ldx` or `ldy` on its own operand. -/
theorem ldxAndLdyLoadTheIndex : Obligations.LdxAndLdyLoadTheIndex := by
  refine ⟨Laws.hasOpcodes_of _ _ (by decide), Laws.hasOpcodes_of _ _ (by decide), fun i s h => ?_, fun i s h => ?_⟩
  · have hform : ReadsSource ldx i := by simpa only [h] using exec_forms i
    exact hform.spec_of_effect fun src => ldx_spec src s
  · have hform : ReadsSource ldy i := by simpa only [h] using exec_forms i
    exact hform.spec_of_effect fun src => ldy_spec src s

/-! ### Stores -/

/-- R120: a store takes only the low `w` bits of its value. -/
theorem State.writeOp_mask (s : State) (ea : EffAddr) (w : Width) (v : Word) :
    s.writeOp ea w (v &&& w.mask) = s.writeOp ea w v := by
  cases w with
  | w8 => simp [State.writeOp, Width.mask]
  | w16 => rw [mask_of_fits v .w16 (fits_word v)]

theorem State.storeAt_mask (s : State) (mode : DataMode) (w : Width) (v : Word) :
    s.storeAt mode w (v &&& w.mask) = s.storeAt mode w v :=
  State.writeOp_mask _ _ _ _

theorem sta_storesAt (mode : DataMode) (s : State) : StoresAt mode s.wM s.A s (sta mode s) := by
  rw [sta, State.readA, State.storeAt_mask]
  exact s.storeAt_storesAt mode s.wM s.A

theorem stx_storesAt (mode : DataMode) (s : State) : StoresAt mode s.wX s.X s (stx mode s) := by
  rw [stx, State.storeAt_mask]
  exact s.storeAt_storesAt mode s.wX s.X

theorem sty_storesAt (mode : DataMode) (s : State) : StoresAt mode s.wX s.Y s (sty mode s) := by
  rw [sty, State.storeAt_mask]
  exact s.storeAt_storesAt mode s.wX s.Y

theorem stz_storesAt (mode : DataMode) (s : State) : StoresAt mode s.wM 0 s (stz mode s) :=
  s.storeAt_storesAt mode s.wM 0

/-- Settles O32: the cells are read off the matrix, and every form stores its register, or zero, by `storeAt`. -/
theorem storesWriteOnlyTheirBytes : Obligations.StoresWriteOnlyTheirBytes := by
  refine ⟨Laws.hasOpcodes_of _ _ (by decide), Laws.hasOpcodes_of _ _ (by decide), Laws.hasOpcodes_of _ _ (by decide),
    Laws.hasOpcodes_of _ _ (by decide), fun i s hi => ?_⟩
  simp only [List.mem_cons, List.not_mem_nil, or_false] at hi
  obtain h | h | h | h := hi
  · have hform : UsesMode sta i := by simpa only [h] using exec_forms i
    exact hform.spec_of_effect fun mode => by simpa [h] using sta_storesAt mode s
  · have hform : UsesMode stx i := by simpa only [h] using exec_forms i
    exact hform.spec_of_effect fun mode => by simpa [h] using stx_storesAt mode s
  · have hform : UsesMode sty i := by simpa only [h] using exec_forms i
    exact hform.spec_of_effect fun mode => by simpa [h] using sty_storesAt mode s
  · have hform : UsesMode stz i := by simpa only [h] using exec_forms i
    exact hform.spec_of_effect fun mode => by simpa [h] using stz_storesAt mode s

/-! ### Transfers -/

/-- R170: a transfer into `X` copies at width `wX`. -/
theorem State.intoX_spec (s : State) (v : Word) :
    s.intoX v = { s with X := v &&& s.wX.mask, P := (s.intoX v).P } ∧
      FlagsNZ (s.intoX v).X s.wX (s.intoX v) ∧ KeepsFlags [.N, .Z] s (s.intoX v) := by
  have hfits := fits_mask v s.wX
  have hX : (s.intoX v).X = v &&& s.wX.mask := indexValue_of_fits _ _ hfits
  exact ⟨hX ▸ rfl, hX ▸ flags_of_setNZ rfl hfits⟩

/-- R170: a transfer into `Y` copies at width `wX`. -/
theorem State.intoY_spec (s : State) (v : Word) :
    s.intoY v = { s with Y := v &&& s.wX.mask, P := (s.intoY v).P } ∧
      FlagsNZ (s.intoY v).Y s.wX (s.intoY v) ∧ KeepsFlags [.N, .Z] s (s.intoY v) := by
  have hfits := fits_mask v s.wX
  have hY : (s.intoY v).Y = v &&& s.wX.mask := indexValue_of_fits _ _ hfits
  exact ⟨hY ▸ rfl, hY ▸ flags_of_setNZ rfl hfits⟩

/-- R170: a transfer into `A` copies at width `wM`. -/
theorem State.intoA_spec (s : State) (v : Word) :
    s.intoA v = { s with A := (s.intoA v).A, P := (s.intoA v).P } ∧
      AccumulatorIs (v &&& s.wM.mask) s.wM s (s.intoA v) ∧
      FlagsNZ (v &&& s.wM.mask) s.wM (s.intoA v) ∧ KeepsFlags [.N, .Z] s (s.intoA v) := by
  have hfits := fits_mask v s.wM
  exact ⟨rfl, accumulatorIs_of_mergeA rfl hfits, flags_of_setNZ rfl hfits⟩

/-- Settles O33: each transfer but TXS is `intoX`, `intoY` or `intoA` of its source, and TXS writes `SP` alone. -/
theorem registerTransfersCopyAtDestinationWidth : Obligations.RegisterTransfersCopyAtDestinationWidth :=
  fun s => ⟨⟨_, rfl, s.intoX_spec s.A⟩, ⟨_, rfl, s.intoY_spec s.A⟩, ⟨_, rfl, s.intoA_spec s.X⟩,
    ⟨_, rfl, s.intoA_spec s.Y⟩, ⟨_, rfl, s.intoX_spec s.SP⟩, ⟨_, rfl, s.intoY_spec s.X⟩,
    ⟨_, rfl, s.intoX_spec s.Y⟩, rfl⟩

/-- N and Z of a byte at width 8, in terms of the byte. -/
theorem flagsNZ_zeroExtend_iff (b : Byte) (t : State) :
    FlagsNZ (b.zeroExtend 16) .w8 t ↔ t.flag .N = b.getLsbD 7 ∧ t.flag .Z = decide (b = 0) := by
  have hN : topBit (b.zeroExtend 16) .w8 = b.getLsbD 7 := by simp [topBit, Width.bits]
  have hZ : b.zeroExtend 16 = (0 : Word) ↔ b = 0 :=
    ⟨fun h => (lo8_zeroExtend b).symm.trans (congrArg lo8 h), fun h => h ▸ rfl⟩
  rw [FlagsNZ, hN, decide_eq_decide.mpr hZ]

/-- Settles O34: TCD, TDC and TSC set N and Z from all 16 bits, which always fit, XBA from its new low byte; TCS writes `SP`
alone. -/
theorem sixteenBitTransfersAndXba : Obligations.SixteenBitTransfersAndXba := by
  intro s
  refine ⟨⟨_, rfl, rfl, flags_of_setNZ rfl (fits_word _)⟩, ⟨_, rfl, rfl, flags_of_setNZ rfl (fits_word _)⟩,
    ⟨_, rfl, rfl, flags_of_setNZ rfl (fits_word _)⟩, rfl, _, rfl, rfl, ?_⟩
  rw [← and_assoc, ← flagsNZ_zeroExtend_iff]
  exact flags_of_setNZ rfl (fits_byte (hi8 s.A) .w8)

end Sys2Proof.Machine

/-! ## Logic (42_arithmetic_logic.md R200 to R203) -/

namespace Sys2Proof.Machine

theorem State.readA_fits (s : State) (w : Width) : Fits (s.readA w) w :=
  fits_mask s.A w

theorem fits_or {a b : Word} {w : Width} (ha : Fits a w) (hb : Fits b w) : Fits (a ||| b) w :=
  Nat.or_lt_two_pow ha hb

theorem fits_and (a : Word) {b : Word} {w : Width} (hb : Fits b w) : Fits (a &&& b) w :=
  Nat.and_lt_two_pow _ hb

theorem fits_xor {a b : Word} {w : Width} (ha : Fits a w) (hb : Fits b w) : Fits (a ^^^ b) w :=
  Nat.xor_lt_two_pow ha hb

/-- The effect the three logic instructions share: the result of the word operation `op` goes to `A`, N and Z follow it. -/
def logic (op : Word → Word → Word) (src : Source) (s : State) : State :=
  s.accumulate (fun p a m w => logicResult p (op a m) w) src

theorem ora_eq_logic : ora = logic (· ||| ·) := rfl

theorem andA_eq_logic : andA = logic (· &&& ·) := rfl

theorem eor_eq_logic : eor = logic (· ^^^ ·) := rfl

/-- What a logic instruction does on its own operand. By `hop` the result fits the width of the operands, so `WriteA` and
`SetNZ` take it whole. -/
theorem ReadsSource.logic_spec {op : Word → Word → Word} {i : Instr} (h : ReadsSource (logic op) i)
    (hop : ∀ {a m : Word} {w : Width}, Fits a w → Fits m w → Fits (op a m) w) (s : State) :
    ∃ src, i.operand.source? = some src ∧ ∃ t, exec i s = .next t ∧
      t = { s with
        A := t.A
        P := t.P
        script := (s.readSource src s.wM).2.script
        trace := (s.readSource src s.wM).2.trace } ∧
      AccumulatorIs (op (s.readA s.wM) (s.readSource src s.wM).1) s.wM s t ∧
        FlagsNZ (op (s.readA s.wM) (s.readSource src s.wM).1) s.wM t ∧ KeepsFlags [.N, .Z] s t := by
  refine h.spec_of_effect fun src => ?_
  have hfits := hop (s.readA_fits s.wM) (s.readSource_fits src s.wM)
  rw [logic, State.accumulate_eq]
  exact ⟨rfl, accumulatorIs_of_mergeA rfl hfits, flags_of_setNZ rfl hfits⟩

/-- Settles O35: the cells are read off the matrix, and every form has the effect `logic` of its own word operation, which
keeps values of a width at that width. -/
theorem logicWritesTheAccumulator : Obligations.LogicWritesTheAccumulator := by
  refine ⟨Laws.hasOpcodes_of _ _ (by decide), Laws.hasOpcodes_of _ _ (by decide), Laws.hasOpcodes_of _ _ (by decide),
    fun i s hi => ?_⟩
  simp only [List.mem_cons, List.not_mem_nil, or_false] at hi
  obtain h | h | h := hi
  · have hform : ReadsSource (logic (· ||| ·)) i := by simpa only [h, ora_eq_logic] using exec_forms i
    obtain ⟨src, hsrc, t, ht, hframe, hresult⟩ := hform.logic_spec fits_or s
    exact ⟨src, hsrc, t, _, ht, hframe, by simp, by simp [h], by simp [h], hresult⟩
  · have hform : ReadsSource (logic (· &&& ·)) i := by simpa only [h, andA_eq_logic] using exec_forms i
    obtain ⟨src, hsrc, t, ht, hframe, hresult⟩ := hform.logic_spec (fun _ => fits_and _) s
    exact ⟨src, hsrc, t, _, ht, hframe, by simp [h], by simp, by simp [h], hresult⟩
  · have hform : ReadsSource (logic (· ^^^ ·)) i := by simpa only [h, eor_eq_logic] using exec_forms i
    obtain ⟨src, hsrc, t, ht, hframe, hresult⟩ := hform.logic_spec fits_xor s
    exact ⟨src, hsrc, t, _, ht, hframe, by simp [h], by simp [h], by simp, hresult⟩

end Sys2Proof.Machine

/-! ## Shifts, rotates, INC and DEC (43_shift_rotate.md R221 to R225, 45_inc_dec.md R261, R262) -/

namespace Sys2Proof.Machine

/-! ### Results as numbers -/

theorem toNat_aslResult (p : Byte) (v : Word) (w : Width) : (aslResult p v w).1.toNat = 2 * v.toNat % 2 ^ w.bits := by
  rw [aslResult, toNat_and_mask, BitVec.toNat_shiftLeft, Nat.shiftLeft_eq]
  cases w <;> simp only [Width.bits] <;> omega

theorem toNat_lsrResult (p : Byte) (v : Word) (w : Width) : (lsrResult p v w).1.toNat = v.toNat / 2 := by
  rw [lsrResult, BitVec.toNat_ushiftRight, Nat.shiftRight_eq_div_pow, pow_one]

theorem toNat_ofNat_bool (b : Bool) : (BitVec.ofNat 16 b.toNat).toNat = b.toNat := by
  cases b <;> rfl

/-- ROL's OR is a sum: the shifted value is even, and the carry is one bit. -/
theorem toNat_rolResult (p : Byte) (v : Word) (w : Width) :
    (rolResult p v w).1.toNat = (2 * v.toNat + (getFlag p .C).toNat) % 2 ^ w.bits := by
  have hshift : (v <<< 1).toNat = 2 ^ 1 * (v.toNat % 2 ^ 15) := by
    rw [BitVec.toNat_shiftLeft, Nat.shiftLeft_eq]
    omega
  rw [rolResult, toNat_and_mask, BitVec.toNat_or, hshift, toNat_ofNat_bool,
    ← Nat.two_pow_add_eq_or_of_lt (Bool.toNat_lt _)]
  cases w <;> simp only [Width.bits] <;> omega

/-- ROR's OR is a sum: the shifted value lies below the top bit, where the carry goes. -/
theorem toNat_rorResult (p : Byte) {v : Word} {w : Width} (hv : Fits v w) :
    (rorResult p v w).1.toNat = v.toNat / 2 + 2 ^ (w.bits - 1) * (getFlag p .C).toNat := by
  have hcarry : (BitVec.ofNat 16 (getFlag p .C).toNat <<< (w.bits - 1)).toNat =
      2 ^ (w.bits - 1) * (getFlag p .C).toNat := by
    cases w <;> cases getFlag p .C <;> rfl
  have hhalf : v.toNat / 2 < 2 ^ (w.bits - 1) := by
    cases w <;> simp only [Fits, Width.bits] at hv ⊢ <;> omega
  rw [rorResult, BitVec.toNat_or, hcarry, BitVec.toNat_ushiftRight, Nat.shiftRight_eq_div_pow, pow_one, Nat.or_comm,
    ← Nat.two_pow_add_eq_or_of_lt hhalf, Nat.add_comm]

theorem toNat_incResult (p : Byte) (v : Word) (w : Width) : (incResult p v w).1.toNat = (v.toNat + 1) % 2 ^ w.bits := by
  rw [incResult, toNat_and_mask, BitVec.toNat_add]
  cases w <;> simp [Width.bits]

theorem toNat_decResult (p : Byte) (v : Word) (w : Width) :
    (decResult p v w).1.toNat = (v.toNat + 2 ^ w.bits - 1) % 2 ^ w.bits := by
  have hone : (1 : Word).toNat = 1 := rfl
  rw [decResult, toNat_and_mask, BitVec.toNat_sub, hone]
  cases w <;> simp only [Width.bits] <;> omega

/-! ### Functions for read-modify-write -/

/-- What R225 asks of its `f`, on every value of the width: the result fits the width and is `result v`, C becomes
`carry v`, and N and Z follow the result. -/
def ModifiesTo (f : Byte → Word → Width → Word × Byte) (p : Byte) (w : Width) (result : Word → Nat) (carry : Word → Bool) :
    Prop :=
  ∀ v, Fits v w → Fits (f p v w).1 w ∧ (f p v w).1.toNat = result v ∧
    (f p v w).2 = setNZ (putFlag p .C (carry v)) (f p v w).1 w

theorem aslResult_modifiesTo (p : Byte) (w : Width) :
    ModifiesTo aslResult p w (fun v => 2 * v.toNat % 2 ^ w.bits) (topBit · w) :=
  fun v _ => ⟨fits_mask _ w, toNat_aslResult p v w, rfl⟩

theorem lsrResult_modifiesTo (p : Byte) (w : Width) :
    ModifiesTo lsrResult p w (fun v => v.toNat / 2) (fun v => v.getLsbD 0) :=
  fun v hv => ⟨(toNat_lsrResult p v w).trans_lt ((Nat.div_le_self _ 2).trans_lt hv), toNat_lsrResult p v w, rfl⟩

theorem rolResult_modifiesTo (p : Byte) (w : Width) :
    ModifiesTo rolResult p w (fun v => (2 * v.toNat + (getFlag p .C).toNat) % 2 ^ w.bits) (topBit · w) :=
  fun v _ => ⟨fits_mask _ w, toNat_rolResult p v w, rfl⟩

theorem rorResult_fits (p : Byte) {v : Word} {w : Width} (hv : Fits v w) : Fits (rorResult p v w).1 w := by
  have hcarry := Bool.toNat_lt (getFlag p .C)
  rw [Fits, toNat_rorResult p hv]
  cases w <;> simp only [Fits, Width.bits] at hv ⊢ <;> omega

theorem rorResult_modifiesTo (p : Byte) (w : Width) :
    ModifiesTo rorResult p w (fun v => v.toNat / 2 + 2 ^ (w.bits - 1) * (getFlag p .C).toNat) (fun v => v.getLsbD 0) :=
  fun _ hv => ⟨rorResult_fits p hv, toNat_rorResult p hv, rfl⟩

/-- INC leaves C: it is written with the value it has. -/
theorem incResult_modifiesTo (p : Byte) (w : Width) :
    ModifiesTo incResult p w (fun v => (v.toNat + 1) % 2 ^ w.bits) (fun _ => getFlag p .C) := by
  intro v _
  rw [putFlag_getFlag]
  exact ⟨fits_mask _ w, toNat_incResult p v w, rfl⟩

/-- DEC leaves C: it is written with the value it has. -/
theorem decResult_modifiesTo (p : Byte) (w : Width) :
    ModifiesTo decResult p w (fun v => (v.toNat + 2 ^ w.bits - 1) % 2 ^ w.bits) (fun _ => getFlag p .C) := by
  intro v _
  rw [putFlag_getFlag]
  exact ⟨fits_mask _ w, toNat_decResult p v w, rfl⟩

/-! ### Read-modify-write as a whole -/

/-- The value read-modify-write reads at its target. -/
def State.targetValue (s : State) : Target → Word
  | .acc => s.readA s.wM
  | .mem mode => (s.readSource (.mem mode) s.wM).1

theorem State.targetValue_fits (s : State) (tgt : Target) : Fits (s.targetValue tgt) s.wM := by
  cases tgt with
  | acc => exact s.readA_fits s.wM
  | mem mode => exact s.readSource_fits (.mem mode) s.wM

theorem State.modify_P (s : State) (tgt : Target) (f : Byte → Word → Width → Word × Byte) :
    (s.modify tgt f).P = (f s.P (s.targetValue tgt) s.wM).2 := by
  cases tgt with
  | acc => rw [State.modify_acc, State.targetValue]
  | mem mode => rw [State.modify_mem, State.targetValue]

/-- R225, memory forms: one read of the location, then one write of the result at the same address. -/
theorem State.modify_mem_spec (s : State) (mode : DataMode) (f : Byte → Word → Width → Word × Byte) :
    s.modify (.mem mode) f = { s with
      P := (s.modify (.mem mode) f).P
      mem := (s.modify (.mem mode) f).mem
      script := (s.modify (.mem mode) f).script
      trace := (s.modify (.mem mode) f).trace } ∧
    HoldsValue (s.resolve mode).1 s.wM (f s.P (s.targetValue (.mem mode)) s.wM).1 s (s.modify (.mem mode) f) ∧
    (s.modify (.mem mode) f).script = (s.readSource (.mem mode) s.wM).2.script ∧
    (s.modify (.mem mode) f).trace = storeRecord (s.resolve mode).1 s.wM (f s.P (s.targetValue (.mem mode)) s.wM).1
      (s.readSource (.mem mode) s.wM).2.trace := by
  rw [State.modify_mem, State.targetValue]
  exact ⟨rfl, HoldsValue.of_mem rfl, rfl, rfl⟩

/-- R28 after C is written: the flags of every shift, rotate and step. -/
theorem flags_of_carry_and_setNZ {s t : State} {c : Bool} {v : Word} {w : Width}
    (hP : t.P = setNZ (putFlag s.P .C c) v w) (hv : Fits v w) :
    t.flag .C = c ∧ FlagsNZ v w t ∧ KeepsFlags [.N, .Z, .C] s t := by
  obtain ⟨hNZ, hkeeps⟩ := flags_of_setNZ (s := s.withP (putFlag s.P .C c)) hP hv
  have hC : t.flag .C = c := (hkeeps .C (by decide)).trans (getFlag_putFlag_same s.P .C c)
  refine ⟨hC, hNZ, fun f hf => ?_⟩
  obtain ⟨hN, hZ, hfC⟩ : f ≠ .N ∧ f ≠ .Z ∧ f ≠ .C := by simpa using hf
  exact (hkeeps f (by simp [hN, hZ])).trans (getFlag_putFlag_ne s.P .C c f hfC)

/-- What an instruction that modifies its target by such an `f` does, in every form. -/
theorem UsesTarget.modify_spec {f : Byte → Word → Width → Word × Byte} {i : Instr} {s : State} {result : Word → Nat}
    {carry : Word → Bool} (h : UsesTarget (fun tgt s => s.modify tgt f) i) (hf : ModifiesTo f s.P s.wM result carry) :
    ∃ tgt, i.operand.target? = some tgt ∧ ∃ (t : State) (r : Word), exec i s = .next t ∧ r.toNat < 2 ^ s.wM.bits ∧
      (r.toNat = result (s.targetValue tgt) ∧ t.flag .C = carry (s.targetValue tgt)) ∧
      FlagsNZ r s.wM t ∧ KeepsFlags [.N, .Z, .C] s t ∧
      (tgt = .acc → t = { s with A := t.A, P := t.P } ∧ AccumulatorIs r s.wM s t) ∧
      ∀ mode, tgt = .mem mode →
        t = { s with P := t.P, mem := t.mem, script := t.script, trace := t.trace } ∧
          HoldsValue (s.resolve mode).1 s.wM r s t ∧ t.script = (s.readSource (.mem mode) s.wM).2.script ∧
          t.trace = storeRecord (s.resolve mode).1 s.wM r (s.readSource (.mem mode) s.wM).2.trace := by
  obtain ⟨tgt, htgt, hexec⟩ := h
  obtain ⟨hfits, hresult, hstatus⟩ := hf (s.targetValue tgt) (s.targetValue_fits tgt)
  obtain ⟨hC, hNZ, hkeeps⟩ := flags_of_carry_and_setNZ ((s.modify_P tgt f).trans hstatus) hfits
  refine ⟨tgt, htgt, s.modify tgt f, _, hexec s, hfits, ⟨hresult, hC⟩, hNZ, hkeeps, ?_, ?_⟩
  · rintro rfl
    exact ⟨rfl, accumulatorIs_of_mergeA rfl hfits⟩
  · rintro mode rfl
    exact s.modify_mem_spec mode f

/-- Settles O39: the cells are read off the matrix, and every form modifies its target by the function of its mnemonic,
whose result and carry are computed as numbers. -/
theorem shiftsRotatesAndStepsModifyTheirTarget : Obligations.ShiftsRotatesAndStepsModifyTheirTarget := by
  refine ⟨Laws.hasOpcodes_of _ _ (by decide), Laws.hasOpcodes_of _ _ (by decide), Laws.hasOpcodes_of _ _ (by decide),
    Laws.hasOpcodes_of _ _ (by decide), Laws.hasOpcodes_of _ _ (by decide), Laws.hasOpcodes_of _ _ (by decide),
    fun i s hi => ?_⟩
  simp only [List.mem_cons, List.not_mem_nil, or_false] at hi
  obtain h | h | h | h | h | h := hi
  · have hform : UsesTarget asl i := by simpa only [h] using exec_forms i
    simp only [h, reduceCtorEq, false_imp_iff, true_imp_iff, true_and]
    exact hform.modify_spec (aslResult_modifiesTo s.P s.wM)
  · have hform : UsesTarget lsr i := by simpa only [h] using exec_forms i
    simp only [h, reduceCtorEq, false_imp_iff, true_imp_iff, true_and]
    exact hform.modify_spec (lsrResult_modifiesTo s.P s.wM)
  · have hform : UsesTarget rol i := by simpa only [h] using exec_forms i
    simp only [h, reduceCtorEq, false_imp_iff, true_imp_iff, true_and]
    exact hform.modify_spec (rolResult_modifiesTo s.P s.wM)
  · have hform : UsesTarget ror i := by simpa only [h] using exec_forms i
    simp only [h, reduceCtorEq, false_imp_iff, true_imp_iff, true_and]
    exact hform.modify_spec (rorResult_modifiesTo s.P s.wM)
  · have hform : UsesTarget inc i := by simpa only [h] using exec_forms i
    simp only [h, reduceCtorEq, false_imp_iff, true_imp_iff, true_and]
    exact hform.modify_spec (incResult_modifiesTo s.P s.wM)
  · have hform : UsesTarget dec i := by simpa only [h] using exec_forms i
    simp only [h, reduceCtorEq, false_imp_iff, true_imp_iff, true_and]
    exact hform.modify_spec (decResult_modifiesTo s.P s.wM)

end Sys2Proof.Machine

/-! ## Compares and bit tests (44_compare_bit.md R241 to R246) -/

namespace Sys2Proof.Machine

/-! ### Compares -/

/-- The difference modulo `2^w`. `m` has to fit: otherwise the subtraction in `Nat` would be cut off at zero. -/
theorem toNat_sub_and_mask (a : Word) {m : Word} {w : Width} (hm : Fits m w) :
    ((a - m) &&& w.mask).toNat = (a.toNat + 2 ^ w.bits - m.toNat) % 2 ^ w.bits := by
  rw [toNat_and_mask, BitVec.toNat_sub]
  cases w <;> simp only [Fits, Width.bits] at hm ⊢ <;> omega

/-- R241 to R243: C is the unsigned comparison, and N and Z follow the difference modulo `2^w`. -/
theorem flags_of_compareFlags {s t : State} {a m : Word} {w : Width} (hP : t.P = compareFlags s.P a m w) (hm : Fits m w) :
    ∃ d : Word, t.flag .C = decide (m.toNat ≤ a.toNat) ∧ d.toNat = (a.toNat + 2 ^ w.bits - m.toNat) % 2 ^ w.bits ∧
      FlagsNZ d w t ∧ KeepsFlags [.N, .Z, .C] s t := by
  obtain ⟨hC, hflags⟩ := flags_of_carry_and_setNZ hP (fits_mask (a - m) w)
  exact ⟨_, hC, toNat_sub_and_mask a hm, hflags⟩

/-- What an instruction that compares `a` with its operand at width `w` does, in every form. -/
theorem ReadsSource.compare_spec {f : Source → State → State} {i : Instr} (h : ReadsSource f i) {s : State} {a : Word}
    {w : Width} (hf : ∀ src, f src s = s.compare a w src) :
    ∃ src, i.operand.source? = some src ∧ ∃ (t : State) (d : Word), exec i s = .next t ∧
      t = { s with P := t.P, script := (s.readSource src w).2.script, trace := (s.readSource src w).2.trace } ∧
      t.flag .C = decide ((s.readSource src w).1.toNat ≤ a.toNat) ∧
      d.toNat = (a.toNat + 2 ^ w.bits - (s.readSource src w).1.toNat) % 2 ^ w.bits ∧
      FlagsNZ d w t ∧ KeepsFlags [.N, .Z, .C] s t := by
  obtain ⟨src, hsrc, hexec⟩ := h
  have hP : (s.compare a w src).P = compareFlags s.P a (s.readSource src w).1 w := by rw [State.compare_eq]
  obtain ⟨d, hflags⟩ := flags_of_compareFlags hP (s.readSource_fits src w)
  refine ⟨src, hsrc, s.compare a w src, d, (hexec s).trans (congrArg _ (hf src)), ?_, hflags⟩
  rw [State.compare_eq]

/-- Settles O40: the cells are read off the matrix, and every form compares its own register, at the register's width. -/
theorem comparesSetFlagsOnly : Obligations.ComparesSetFlagsOnly := by
  refine ⟨Laws.hasOpcodes_of _ _ (by decide), Laws.hasOpcodes_of _ _ (by decide), Laws.hasOpcodes_of _ _ (by decide),
    fun i s hi => ?_⟩
  simp only [List.mem_cons, List.not_mem_nil, or_false] at hi
  obtain h | h | h := hi
  · have hform : ReadsSource cmp i := by simpa only [h] using exec_forms i
    simp only [h, if_true]
    exact hform.compare_spec fun _ => rfl
  · have hform : ReadsSource cpx i := by simpa only [h] using exec_forms i
    simp only [h, reduceCtorEq, if_false, if_true]
    exact hform.compare_spec fun _ => rfl
  · have hform : ReadsSource cpy i := by simpa only [h] using exec_forms i
    simp only [h, reduceCtorEq, if_false]
    exact hform.compare_spec fun _ => rfl

/-! ### BIT -/

theorem flags_of_testZ {s t : State} {a m : Word} (hP : t.P = testZ s.P a m) :
    t.flag .Z = decide (a &&& m = 0) ∧ KeepsFlags [.Z] s t := by
  have hflag (f : Flag) : t.flag f = getFlag (testZ s.P a m) f := congrArg (getFlag · f) hP
  refine ⟨by simp [hflag, getFlag_testZ], fun f hf => ?_⟩
  rw [hflag, getFlag_testZ, if_neg (by simpa using hf), State.flag]

theorem flags_of_bitFlags {s t : State} {a m : Word} {w : Width} (hP : t.P = bitFlags s.P a m w) :
    t.flag .Z = decide (a &&& m = 0) ∧ t.flag .N = m.getLsbD (w.bits - 1) ∧ t.flag .V = m.getLsbD (w.bits - 2) ∧
      KeepsFlags [.N, .V, .Z] s t := by
  have hflag (f : Flag) : t.flag f = getFlag (bitFlags s.P a m w) f := congrArg (getFlag · f) hP
  refine ⟨by simp [hflag, getFlag_bitFlags], by simp [hflag, getFlag_bitFlags], by simp [hflag, getFlag_bitFlags],
    fun f hf => ?_⟩
  obtain ⟨hN, hV, hZ⟩ : f ≠ .N ∧ f ≠ .V ∧ f ≠ .Z := by simpa using hf
  rw [hflag, getFlag_bitFlags, if_neg hV, if_neg hN, if_neg hZ, State.flag]

/-- R244, immediate form. -/
theorem bit_imm_spec (v : Imm) (s : State) :
    bit (.imm v) s = { s with
      P := (bit (.imm v) s).P
      script := (s.readSource (.imm v) s.wM).2.script
      trace := (s.readSource (.imm v) s.wM).2.trace } ∧
    (bit (.imm v) s).flag .Z = decide (s.readA s.wM &&& (s.readSource (.imm v) s.wM).1 = 0) ∧
      KeepsFlags [.Z] s (bit (.imm v) s) := by
  rw [bit_eq]
  exact ⟨rfl, flags_of_testZ rfl⟩

/-- R244, memory forms. -/
theorem bit_mem_spec (mode : DataMode) (s : State) :
    bit (.mem mode) s = { s with
      P := (bit (.mem mode) s).P
      script := (s.readSource (.mem mode) s.wM).2.script
      trace := (s.readSource (.mem mode) s.wM).2.trace } ∧
    (bit (.mem mode) s).flag .Z = decide (s.readA s.wM &&& (s.readSource (.mem mode) s.wM).1 = 0) ∧
      (bit (.mem mode) s).flag .N = (s.readSource (.mem mode) s.wM).1.getLsbD (s.wM.bits - 1) ∧
      (bit (.mem mode) s).flag .V = (s.readSource (.mem mode) s.wM).1.getLsbD (s.wM.bits - 2) ∧
      KeepsFlags [.N, .V, .Z] s (bit (.mem mode) s) := by
  rw [bit_eq]
  exact ⟨rfl, flags_of_bitFlags rfl⟩

/-- No cell of BIT is an immediate at the index width (R96). -/
theorem format_ne_immX_of_bit {i : Instr} (h : i.mnemonic = .BIT) : i.format ≠ .IMMX := by
  have hcell : ∀ op : Byte, (decodeOpcode op Laws.noFields).mnemonic = .BIT →
      (decodeOpcode op Laws.noFields).format ≠ .IMMX := by decide
  rw [← Laws.format_of_opcode i Laws.noFields]
  exact hcell i.opcode ((Laws.mnemonic_of_opcode i _).trans h)

/-- Where IMMX is shut out, the format tells an immediate from a memory form. -/
theorem operandFormat_eq_immM_iff {o : Operand} {src : Source} (hsrc : o.source? = some src) (hX : o.format ≠ .IMMX) :
    o.format = .IMMM ↔ ∃ v, src = .imm v := by
  cases o with
  | immM v =>
    obtain rfl : Source.imm v = src := Option.some.inj hsrc
    exact ⟨fun _ => ⟨v, rfl⟩, fun _ => rfl⟩
  | immX v => exact absurd rfl hX
  | data mode =>
    obtain rfl : Source.mem mode = src := Option.some.inj hsrc
    cases mode <;> simp [Operand.format, DataMode.format]
  | _ => simp [Operand.source?] at hsrc

/-- Settles O41: the cells are read off the matrix. The form fixes the operand's kind, and the kind fixes which of `testZ`
and `bitFlags` writes `P`. -/
theorem bitTestsItsOperand : Obligations.BitTestsItsOperand := by
  refine ⟨Laws.hasOpcodes_of _ _ (by decide), fun i s h => ?_⟩
  have hform : ReadsSource bit i := by simpa only [h] using exec_forms i
  obtain ⟨src, hsrc, hexec⟩ := hform
  have hkind : i.format = .IMMM ↔ ∃ v, src = .imm v :=
    operandFormat_eq_immM_iff hsrc (format_ne_immX_of_bit h)
  refine ⟨src, hsrc, bit src s, hexec s, ?_⟩
  cases src with
  | imm v =>
    obtain ⟨hframe, hZ, hkeeps⟩ := bit_imm_spec v s
    exact ⟨hframe, hZ, fun _ => hkeeps, fun hne => absurd (hkind.mpr ⟨v, rfl⟩) hne⟩
  | mem mode =>
    obtain ⟨hframe, hZ, hNV⟩ := bit_mem_spec mode s
    exact ⟨hframe, hZ, fun himm => by simp [hkind] at himm, fun _ => hNV⟩

/-! ### TSB and TRB -/

/-- Read-modify-write with the flags of a bit test (R245, R246): Z is from the value read, `r` is stored at the same address. -/
theorem State.modify_testZ_spec (s : State) (mode : DataMode) {f : Byte → Word → Width → Word × Byte} {r : Word}
    (hf : f s.P (s.readSource (.mem mode) s.wM).1 s.wM =
      (r, testZ s.P (s.readA s.wM) (s.readSource (.mem mode) s.wM).1)) :
    s.modify (.mem mode) f = { s with
      P := (s.modify (.mem mode) f).P
      mem := (s.modify (.mem mode) f).mem
      script := (s.readSource (.mem mode) s.wM).2.script
      trace := (s.modify (.mem mode) f).trace } ∧
    (s.modify (.mem mode) f).flag .Z = decide (s.readA s.wM &&& (s.readSource (.mem mode) s.wM).1 = 0) ∧
    KeepsFlags [.Z] s (s.modify (.mem mode) f) ∧
    HoldsValue (s.resolve mode).1 s.wM r s (s.modify (.mem mode) f) ∧
    (s.modify (.mem mode) f).trace = storeRecord (s.resolve mode).1 s.wM r (s.readSource (.mem mode) s.wM).2.trace := by
  have hP : (s.modify (.mem mode) f).P = testZ s.P (s.readA s.wM) (s.readSource (.mem mode) s.wM).1 := by
    rw [State.modify_mem, hf]
  obtain ⟨hZ, hkeeps⟩ := flags_of_testZ hP
  rw [State.modify_mem, hf] at hZ hkeeps ⊢
  exact ⟨rfl, hZ, hkeeps, HoldsValue.of_mem rfl, rfl⟩

/-- R246: a value of the width has no bit above it, so the mask on `~a` changes nothing. -/
theorem trbResult_of_fits (a : Word) (p : Byte) {m : Word} {w : Width} (hm : Fits m w) :
    trbResult a p m w = (m &&& ~~~a, testZ p a m) := by
  rw [trbResult, BitVec.and_comm (~~~a), ← BitVec.and_assoc, mask_of_fits m w hm]

/-- Settles O42: the cells are read off the matrix, and every form modifies its operand by `tsbResult` or `trbResult`. -/
theorem tsbAndTrbSetAndResetBits : Obligations.TsbAndTrbSetAndResetBits := by
  refine ⟨Laws.hasOpcodes_of _ _ (by decide), Laws.hasOpcodes_of _ _ (by decide), fun i s hi => ?_⟩
  simp only [List.mem_cons, List.not_mem_nil, or_false] at hi
  obtain h | h := hi
  · have hform : UsesMode tsb i := by simpa only [h] using exec_forms i
    simp only [h, if_true]
    exact hform.spec_of_effect fun mode => s.modify_testZ_spec mode rfl
  · have hform : UsesMode trb i := by simpa only [h] using exec_forms i
    simp only [h, reduceCtorEq, if_false]
    exact hform.spec_of_effect fun mode =>
      s.modify_testZ_spec mode (trbResult_of_fits _ _ (s.readSource_fits (.mem mode) s.wM))

end Sys2Proof.Machine

/-! ## INX, INY, DEX and DEY (45_inc_dec.md R263 to R266) -/

namespace Sys2Proof.Machine

/-- R262 at either width: one down is `2^16 - 1` up, since `2^w` divides `2^16`. -/
theorem toNat_decResult_eq_add (p : Byte) (v : Word) (w : Width) :
    (decResult p v w).1.toNat = (v.toNat + 65535) % 2 ^ w.bits := by
  rw [toNat_decResult]
  cases w <;> simp only [Width.bits] <;> omega

/-- R263, R265: what is left when a result modulo `2^wX` is written to `X` with its N and Z. -/
theorem State.putX_spec (s : State) {r : Word × Byte} {n : Nat} (hP : r.2 = Sys2Proof.Machine.setNZ s.P r.1 s.wX)
    (hn : r.1.toNat = n % 2 ^ s.wX.bits) :
    s.putX r = { s with X := (s.putX r).X, P := (s.putX r).P } ∧ (s.putX r).X.toNat = n % 2 ^ s.wX.bits ∧
      FlagsNZ (s.putX r).X s.wX (s.putX r) ∧ KeepsFlags [.N, .Z] s (s.putX r) := by
  have hfits : Fits r.1 s.wX := hn.trans_lt (Nat.mod_lt _ (Nat.two_pow_pos _))
  have hX : (s.putX r).X = r.1 := indexValue_of_fits _ _ hfits
  exact ⟨rfl, hX ▸ hn, hX ▸ flags_of_setNZ hP hfits⟩

/-- R264, R266: what is left when a result modulo `2^wX` is written to `Y` with its N and Z. -/
theorem State.putY_spec (s : State) {r : Word × Byte} {n : Nat} (hP : r.2 = Sys2Proof.Machine.setNZ s.P r.1 s.wX)
    (hn : r.1.toNat = n % 2 ^ s.wX.bits) :
    s.putY r = { s with Y := (s.putY r).Y, P := (s.putY r).P } ∧ (s.putY r).Y.toNat = n % 2 ^ s.wX.bits ∧
      FlagsNZ (s.putY r).Y s.wX (s.putY r) ∧ KeepsFlags [.N, .Z] s (s.putY r) := by
  have hfits : Fits r.1 s.wX := hn.trans_lt (Nat.mod_lt _ (Nat.two_pow_pos _))
  have hY : (s.putY r).Y = r.1 := indexValue_of_fits _ _ hfits
  exact ⟨rfl, hY ▸ hn, hY ▸ flags_of_setNZ hP hfits⟩

/-- Settles O43: each of the four is `putX` or `putY` of `incResult` or `decResult`, whose value is a number modulo `2^wX`. -/
theorem indexStepsWrapAtTheirWidth : Obligations.IndexStepsWrapAtTheirWidth :=
  fun s => ⟨⟨_, rfl, s.putX_spec rfl (toNat_incResult s.P s.X s.wX)⟩,
    ⟨_, rfl, s.putY_spec rfl (toNat_incResult s.P s.Y s.wX)⟩,
    ⟨_, rfl, s.putX_spec rfl (toNat_decResult_eq_add s.P s.X s.wX)⟩,
    ⟨_, rfl, s.putY_spec rfl (toNat_decResult_eq_add s.P s.Y s.wX)⟩⟩

end Sys2Proof.Machine

/-! ## Branches, calls and returns (46_branch_jump.md R281 to R291, R294 to R297) -/

namespace Sys2Proof.Machine

/-! ### Branches -/

/-- R144 in whole numbers: a sum of words is the signed displacement added modulo 65536. -/
theorem relative16_eq_ofInt (pc disp : Word) : relative16 pc disp = BitVec.ofInt 16 (pc.toNat + disp.toInt) := by
  rw [BitVec.ofInt_add, BitVec.ofInt_natCast, BitVec.ofNat_toNat, BitVec.setWidth_eq, BitVec.ofInt_toInt]
  rfl

/-- R143 in whole numbers: the byte's sign is extended before the sum. -/
theorem relative8_eq_ofInt (pc : Word) (disp : Byte) : relative8 pc disp = BitVec.ofInt 16 (pc.toNat + disp.toInt) := by
  have hsign : (disp.signExtend 16).toInt = disp.toInt := BitVec.toInt_signExtend_of_le (by decide)
  rw [← hsign]
  exact relative16_eq_ofInt pc (disp.signExtend 16)

theorem State.branchIf_eq (s : State) (cond : Bool) (disp : Byte) :
    s.branchIf cond disp = if cond then { s with PC := BitVec.ofInt 16 (s.PC.toNat + disp.toInt) } else s := by
  rw [State.branchIf, relative8_eq_ofInt]

/-- Settles O44: each 8-bit branch is `branchIf` of its condition, and BRL is the same sum of a word. -/
theorem branchesMovePcInsideTheBank : Obligations.BranchesMovePcInsideTheBank := by
  intro s d e
  have hbranch (cond : Bool) := congrArg (Host.Outcome.next (φ := Fault) (ρ := Refusal)) (s.branchIf_eq cond d)
  have hbrl : exec (.brl e) s = .next { s with PC := BitVec.ofInt 16 (s.PC.toNat + e.toInt) } := by
    rw [← relative16_eq_ofInt]
    rfl
  exact ⟨hbranch _, hbranch _, hbranch _, hbranch _, hbranch _, hbranch _, hbranch _, hbranch _, hbranch true, hbrl⟩

/-! ### Calls -/

/-- R294: the offset pushed is that of the instruction's last byte. -/
theorem State.pushReturn_pushes (s : State) : Pushes [hi8 (s.PC - 1), lo8 (s.PC - 1)] s s.pushReturn :=
  s.push16_pushes (s.PC - 1)

/-- R295: the frame of JSL has `PBR` above the return offset. -/
theorem State.push8_pushReturn_pushes (s : State) (b : Byte) :
    Pushes [b, hi8 (s.PC - 1), lo8 (s.PC - 1)] s (s.push8 b).pushReturn :=
  Pushes.append (l := [b]) (s.push8_pushes b) (s.push8 b).pushReturn_pushes

/-- R137, R138: what a jump through a pointer reads, and the state it leaves. -/
theorem State.jumpThrough_spec (s : State) (ea : EffAddr) :
    ∃ pl ph, s.answers [ea.addr, ea.next.addr] = [pl, ph] ∧
      s.jumpThrough ea = { s.afterReads [ea.addr, ea.next.addr] with PC := mkWord ph pl } :=
  ⟨_, _, s.answers_pair _ _, by rw [State.jumpThrough, State.read16_eq]⟩

/-- R138: the second byte of the pointer stays in the program bank. -/
@[simp] theorem State.programPointer_next_addr (s : State) (addr : Word) :
    (s.programPointer addr).next.addr = mkAddr s.PBR (addr + s.X + 1) :=
  congrArg EffAddr.addr (EffAddr.next_wrap s.PBR (addr + s.X))

/-- Settles O46: each call is its pushes and then a load of `PC`; JSR `(abs,X)` loads it from the pointer that `PBR` and `X`
give, which the pushes leave alone. -/
theorem callsPushTheReturnAddress : Obligations.CallsPushTheReturnAddress := by
  intro s o l
  refine ⟨⟨_, s.pushReturn, rfl, s.pushReturn_pushes, rfl⟩, ?_,
    ⟨_, (s.push8 s.PBR).pushReturn, rfl, s.push8_pushReturn_pushes s.PBR, rfl⟩⟩
  obtain ⟨pl, ph, hanswers, hjump⟩ := s.pushReturn.jumpThrough_spec (s.programPointer o)
  rw [State.programPointer_next_addr] at hanswers hjump
  exact ⟨_, s.pushReturn, pl, ph, rfl, s.pushReturn_pushes, hanswers, hjump⟩

/-! ### Returns -/

theorem Pulls.append {s t u : State} : ∀ {l k : List Byte}, Pulls l s t → Pulls k t u → Pulls (l ++ k) s u
  | [], _, h, hk => by rw [show t = s from h] at hk; exact hk
  | _ :: _, _, ⟨hb, h⟩, hk => ⟨hb, Pulls.append h hk⟩

/-- Settles O47: both returns pull a word and add one to it; RTL's third pull follows the two. -/
theorem returnsPullTheReturnAddress : Obligations.ReturnsPullTheReturnAddress :=
  fun s => ⟨⟨_, s.pull16.2, _, _, rfl, s.pull16_pulls, rfl⟩,
    ⟨_, s.pull16.2.pull8.2, _, _, _, rfl, s.pull16_pulls.append s.pull16.2.pull8_pulls, rfl⟩⟩

end Sys2Proof.Machine

/-! ## Pushes and pulls (47_stack.md R311 to R326), REP and SEP (48_processor_control.md R348, R349) -/

namespace Sys2Proof.Machine

/-! ### Pushes -/

/-- R311 to R313: at width 8 the low byte alone, at width 16 the high byte first. -/
theorem State.pushW_pushes (s : State) (v : Word) (w : Width) :
    Pushes (if w = .w8 then [lo8 v] else [hi8 v, lo8 v]) s (s.pushW v w) := by
  cases w with
  | w8 => exact s.push8_pushes (lo8 v)
  | w16 => exact s.push16_pushes v

/-- R325: the word PEI reads, and its pushes from the state those reads leave. -/
theorem pushIndirect_spec (dp : Byte) (s : State) :
    ∃ l h, s.answers [mkAddr 0x00 (s.directOffset dp), mkAddr 0x00 (s.directOffset dp + 1)] = [l, h] ∧
      Pushes [h, l] (s.afterReads [mkAddr 0x00 (s.directOffset dp), mkAddr 0x00 (s.directOffset dp + 1)])
        (pushIndirect dp s) := by
  refine ⟨_, _, s.answers_pair _ _, ?_⟩
  rw [pushIndirect, State.read16_eq, inBank0_next]
  simpa only [inBank0_addr, hi8_mkWord, lo8_mkWord] using State.push16_pushes _ (mkWord _ _)

/-- Settles O49: PHA, PHX and PHY push at their register's width, PEI after its read, the others a fixed byte or word. -/
theorem pushInstructionsPushTheirBytes : Obligations.PushInstructionsPushTheirBytes := by
  intro s v dp
  obtain ⟨l, h, hread, hpush⟩ := pushIndirect_spec dp s
  exact ⟨⟨_, rfl, s.pushW_pushes s.A s.wM⟩, ⟨_, rfl, s.pushW_pushes s.X s.wX⟩, ⟨_, rfl, s.pushW_pushes s.Y s.wX⟩,
    ⟨_, rfl, s.push8_pushes s.P⟩, ⟨_, rfl, s.push8_pushes s.DBR⟩, ⟨_, rfl, s.push16_pushes s.D⟩,
    ⟨_, rfl, s.push8_pushes s.PBR⟩, ⟨_, rfl, s.push16_pushes v⟩, ⟨_, l, h, rfl, hread, hpush⟩,
    ⟨_, rfl, s.push16_pushes (s.PC + v)⟩⟩

/-! ### Pulls -/

theorem mkWord_zero_high (b : Byte) : mkWord 0 b = b.zeroExtend 16 := by
  rw [← mkWord_hi8_lo8 (b.zeroExtend 16), hi8_zeroExtend, lo8_zeroExtend]

/-- R318 to R320: a pull at a width takes as many bytes as the width has, and its value is those bytes, low byte first. -/
theorem State.pullW_spec (s : State) (w : Width) :
    ∃ bytes, bytes.length = w.bits / 8 ∧ Pulls bytes s (s.pullW w).2 ∧
      (s.pullW w).1 = mkWord (bytes.getD 1 0) (bytes.getD 0 0) := by
  cases w with
  | w8 => exact ⟨_, rfl, s.pull8_pulls, (mkWord_zero_high _).symm⟩
  | w16 => exact ⟨[s.pull8.1, s.pull8.2.pull8.1], (rfl : 2 = 16 / 8), s.pull16_pulls, s.pull16_value⟩

theorem State.pullW_fits (s : State) (w : Width) : Fits (s.pullW w).1 w := by
  cases w with
  | w8 => exact fits_byte _ _
  | w16 => exact fits_word _

/-- R318: what `WriteA` and `SetNZ` leave of the state after the pull. -/
theorem pla_spec (s : State) :
    pla s = { (s.pullW s.wM).2 with A := (pla s).A, P := (pla s).P } ∧
      AccumulatorIs (s.pullW s.wM).1 s.wM s (pla s) ∧
      FlagsNZ (s.pullW s.wM).1 s.wM (pla s) ∧ KeepsFlags [.N, .Z] s (pla s) := by
  have hfits := s.pullW_fits s.wM
  exact ⟨rfl, accumulatorIs_of_mergeA (by simp [pla]) hfits, flags_of_setNZ (by simp [pla]) hfits⟩

/-- R319: the pulled value fits `wX`, so `X` takes it whole. -/
theorem plx_spec (s : State) :
    plx s = { (s.pullW s.wX).2 with X := (s.pullW s.wX).1, P := (plx s).P } ∧
      FlagsNZ (s.pullW s.wX).1 s.wX (plx s) ∧ KeepsFlags [.N, .Z] s (plx s) := by
  have hfits := s.pullW_fits s.wX
  have hX : (plx s).X = (s.pullW s.wX).1 := indexValue_of_fits _ _ hfits
  exact ⟨hX ▸ rfl, flags_of_setNZ (by simp [plx]) hfits⟩

/-- R320: the pulled value fits `wX`, so `Y` takes it whole. -/
theorem ply_spec (s : State) :
    ply s = { (s.pullW s.wX).2 with Y := (s.pullW s.wX).1, P := (ply s).P } ∧
      FlagsNZ (s.pullW s.wX).1 s.wX (ply s) ∧ KeepsFlags [.N, .Z] s (ply s) := by
  have hfits := s.pullW_fits s.wX
  have hY : (ply s).Y = (s.pullW s.wX).1 := indexValue_of_fits _ _ hfits
  exact ⟨hY ▸ rfl, flags_of_setNZ (by simp [ply]) hfits⟩

/-- Settles O50: PLA, PLX and PLY load the value of a pull at their register's width, which fits it; PLB and PLD pull at a
fixed width. -/
theorem pullInstructionsLoadTheirRegister : Obligations.PullInstructionsLoadTheirRegister := by
  intro s
  obtain ⟨bytesM, hlenM, hpullsM, hvalueM⟩ := s.pullW_spec s.wM
  obtain ⟨bytesX, hlenX, hpullsX, hvalueX⟩ := s.pullW_spec s.wX
  have hplb : FlagsNZ (s.pull8.1.zeroExtend 16) .w8 (plb s) ∧ KeepsFlags [.N, .Z] s (plb s) :=
    flags_of_setNZ rfl (fits_byte _ _)
  have hpld : FlagsNZ s.pull16.1 .w16 (pld s) ∧ KeepsFlags [.N, .Z] s (pld s) := flags_of_setNZ rfl (fits_word _)
  refine ⟨⟨pla s, _, bytesM, rfl, hlenM, hpullsM, ?_⟩, ⟨plx s, _, bytesX, rfl, hlenX, hpullsX, ?_⟩,
    ⟨ply s, _, bytesX, rfl, hlenX, hpullsX, ?_⟩, ⟨plb s, _, _, rfl, s.pull8_pulls, rfl, hplb⟩,
    ⟨pld s, _, _, _, rfl, s.pull16_pulls, rfl, hpld⟩⟩
  · simpa only [hvalueM] using pla_spec s
  · simpa only [hvalueX] using plx_spec s
  · simpa only [hvalueX] using ply_spec s

/-! ### REP, SEP and PLP (R321, R348, R349) -/

theorem getFlag_or (p k : Byte) (f : Flag) : getFlag (p ||| k) f = (getFlag p f || getFlag k f) :=
  BitVec.getLsbD_or

theorem getFlag_and_not (p k : Byte) (f : Flag) : getFlag (p &&& ~~~k) f = (getFlag p f && !getFlag k f) := by
  have hbit : f.bit < 8 := by cases f <;> decide
  simp [getFlag, hbit]

/-- R29 by cases: M and X are held at 1 in emulation mode, and every other flag is the byte's. -/
theorem State.flag_setP_eq_ite (s : State) (p : Byte) (f : Flag) :
    (s.setP p).flag f = if s.E && (f == .M || f == .X) then true else getFlag p f := by
  rw [State.flag_setP, Bool.or_comm]
  cases s.E && (f == .M || f == .X) <;> rfl

/-- Settles O51: all three are `SetP` of a byte; REP's and SEP's byte is then read flag by flag. -/
theorem repSepAndPlpWriteP : Obligations.RepSepAndPlpWriteP := by
  refine fun s k => ⟨rfl, rfl, ⟨_, s.pull8.2, s.pull8.1, rfl, s.pull8_pulls, rfl⟩, fun t ht f => ?_, fun t ht f => ?_⟩
  · obtain rfl : s.setP (s.P &&& ~~~k) = t := Host.Outcome.next.inj ht
    rw [State.flag_setP_eq_ite, getFlag_and_not, State.flag]
  · obtain rfl : s.setP (s.P ||| k) = t := Host.Outcome.next.inj ht
    rw [State.flag_setP_eq_ite, getFlag_or, State.flag]

end Sys2Proof.Machine

/-! ## Processor control (48_processor_control.md R341 to R347, R350 to R354, R357) -/

namespace Sys2Proof.Machine

/-! ### Flag instructions, NOP, WDM, WAI and STP -/

/-- R341 to R347: a flag written on its own. -/
theorem State.withP_putFlag_spec (s : State) (f : Flag) (b : Bool) :
    (s.withP (putFlag s.P f b)).flag f = b ∧ KeepsFlags [f] s (s.withP (putFlag s.P f b)) := by
  refine ⟨getFlag_putFlag_same s.P f b, fun g hg => ?_⟩
  exact getFlag_putFlag_ne s.P f b g (List.ne_of_not_mem_cons hg)

/-- Settles O52: the seven flag instructions are one flag write, and the step after WAI or STP has nothing to do. -/
theorem flagNopWaitAndStopInstructions : Obligations.FlagNopWaitAndStopInstructions := by
  intro s sig
  have hflag (f : Flag) (b : Bool) := s.withP_putFlag_spec f b
  exact ⟨⟨_, rfl, rfl, hflag .C false⟩, ⟨_, rfl, rfl, hflag .C true⟩, ⟨_, rfl, rfl, hflag .I false⟩,
    ⟨_, rfl, rfl, hflag .I true⟩, ⟨_, rfl, rfl, hflag .D false⟩, ⟨_, rfl, rfl, hflag .D true⟩,
    ⟨_, rfl, rfl, hflag .V false⟩, rfl, rfl, rfl, rfl,
    fun hn hi => step_of_stopped_or_waiting (.inr ⟨rfl, hn, hi⟩), step_of_stopped rfl⟩

/-! ### XCE -/

theorem and_mask8_eq_mkWord (v : Word) : v &&& 0x00FF#16 = mkWord 0x00 (lo8 v) := by
  rw [← mkWord_hi8_lo8 (v &&& 0x00FF#16), hi8_and_mask8, lo8_and_mask8]

/-- R350, leaving emulation or staying out of it. -/
theorem xce_of_carry_clear {s : State} (h : s.flag .C = false) :
    xce s = { s with E := false, P := putFlag s.P .C s.E } := by
  simp [xce, h]

/-- R350, entering emulation or staying in it. -/
theorem xce_of_carry_set {s : State} (h : s.flag .C = true) :
    xce s = { s with
      E := true
      P := forceWidths true (putFlag s.P .C s.E)
      X := mkWord 0x00 (lo8 s.X)
      Y := mkWord 0x00 (lo8 s.Y)
      SP := mkWord 0x01 (lo8 s.SP) } := by
  simp [xce, h, and_mask8_eq_mkWord, pinStack]

theorem xce_eq (s : State) :
    xce s = { s with
      E := s.flag .C
      P := forceWidths (s.flag .C) (putFlag s.P .C s.E)
      X := (xce s).X
      Y := (xce s).Y
      SP := (xce s).SP } := by
  cases h : s.flag .C with
  | false => rw [xce_of_carry_clear h]; rfl
  | true => rw [xce_of_carry_set h]

theorem flag_xce (s : State) (f : Flag) :
    (xce s).flag f = ((if f = .C then s.E else s.flag f) || (s.flag .C && (f == .M || f == .X))) := by
  rw [xce_eq, State.flag, getFlag_forceWidths, getFlag_putFlag]
  rfl

theorem flag_C_xce (s : State) : (xce s).flag .C = s.E := by
  simp [flag_xce]

theorem xce_E (s : State) : (xce s).E = s.flag .C := by
  rw [xce_eq]

/-- Settles O53: `C` decides which of the two equations of `xce` holds, and the flags of both are those of `flag_xce`. -/
theorem xceExchangesCarryAndEmulation : Obligations.XceExchangesCarryAndEmulation := by
  refine fun s => ⟨xce s, rfl, ?_, flag_C_xce s, fun h => ?_, fun h => ?_, xce (xce s), rfl, ?_, ?_⟩
  · rw [xce_eq]
  · have hkeeps : KeepsFlags [.C] s (xce s) := fun f hf => by simp [flag_xce, h, List.ne_of_not_mem_cons hf]
    rw [xce_of_carry_clear h] at hkeeps ⊢
    exact ⟨rfl, rfl, rfl, hkeeps⟩
  · have hkeeps : KeepsFlags [.C, .M, .X] s (xce s) := fun f hf => by
      obtain ⟨hC, hM, hX⟩ : f ≠ .C ∧ f ≠ .M ∧ f ≠ .X := by simpa using hf
      simp [flag_xce, hC, hM, hX]
    refine ⟨by simp [flag_xce, h], by simp [flag_xce, h], hkeeps, ?_⟩
    rw [xce_of_carry_set h]
    exact ⟨rfl, rfl, rfl⟩
  · rw [xce_E, flag_C_xce]
  · rw [flag_C_xce, xce_E]

/-! ### RTI -/

/-- R357 in emulation mode. `SetP` touches nothing that a pull reads or writes, so it can as well follow the pulls. -/
theorem State.returnFromInterrupt_of_emulation {s : State} (hE : s.E = true) :
    s.returnFromInterrupt = { s.pull8.2.pull16.2.setP s.pull8.1 with PC := s.pull8.2.pull16.1 } := by
  rw [State.returnFromInterrupt]
  exact if_pos hE

/-- R357 in native mode: the fourth byte pulled is `PBR`. -/
theorem State.returnFromInterrupt_of_native {s : State} (hE : s.E = false) :
    s.returnFromInterrupt =
      { s.pull8.2.pull16.2.pull8.2.setP s.pull8.1 with
        PC := s.pull8.2.pull16.1
        PBR := s.pull8.2.pull16.2.pull8.1 } := by
  rw [State.returnFromInterrupt]
  exact if_neg (ne_true_of_eq_false hE)

/-- Settles O56: three pulls in emulation mode and four in native mode, then the whole of what they gave is written. -/
theorem rtiPullsStatusThenProgramCounter : Obligations.RtiPullsStatusThenProgramCounter := by
  intro s
  have hpulls : Pulls [s.pull8.1, s.pull8.2.pull8.1, s.pull8.2.pull8.2.pull8.1] s s.pull8.2.pull16.2 :=
    s.pull8_pulls.append s.pull8.2.pull16_pulls
  cases hE : s.E with
  | true =>
    exact ⟨_, s.pull8.2.pull16.2, _, _, _, rfl, fun _ => ⟨hpulls, State.returnFromInterrupt_of_emulation hE⟩, nofun⟩
  | false =>
    exact ⟨_, s.pull8.2.pull16.2.pull8.2, _, _, _, rfl, nofun, fun _ =>
      ⟨_, hpulls.append s.pull8.2.pull16.2.pull8_pulls, State.returnFromInterrupt_of_native hE⟩⟩

end Sys2Proof.Machine

/-! ## What an instruction writes, and that it keeps the invariant (10_state.md R24 to R37) -/

namespace Sys2Proof.Machine

/-! ### The parts of the engine that have a table of writers -/

/-- A part of the state of which the spec lists the instructions that write it. -/
inductive Part
  | PBR | DBR | D | SP | E | waiting | stopped | mv | nmiPending | irqPending | mem
  | flag (f : Flag)

/-- The part has one value in both states. -/
def Part.Same (s t : State) : Part → Prop
  | .PBR => t.PBR = s.PBR
  | .DBR => t.DBR = s.DBR
  | .D => t.D = s.D
  | .SP => t.SP = s.SP
  | .E => t.E = s.E
  | .waiting => t.waiting = s.waiting
  | .stopped => t.stopped = s.stopped
  | .mv => t.mv = s.mv
  | .nmiPending => t.nmiPending = s.nmiPending
  | .irqPending => t.irqPending = s.irqPending
  | .mem => t.mem = s.mem
  | .flag f => t.flag f = s.flag f

theorem Part.Same.trans {s t u : State} {p : Part} (h : p.Same s t) (k : p.Same t u) : p.Same s u := by
  cases p <;> exact Eq.trans k h

/-- The mnemonics that write N (R37). -/
def writersOfN : List Mnemonic :=
  [.LDA, .LDX, .LDY, .AND, .ORA, .EOR, .ADC, .SBC, .CMP, .CPX, .CPY, .INC, .DEC, .INX, .INY, .DEX, .DEY, .ASL, .LSR, .ROL,
    .ROR, .TAX, .TAY, .TXA, .TYA, .TSX, .TXY, .TYX, .TCD, .TDC, .TSC, .XBA, .PLA, .PLX, .PLY, .PLB, .PLD, .BIT, .PLP, .RTI,
    .REP, .SEP]

/-- The mnemonics that write Z (R37). -/
def writersOfZ : List Mnemonic :=
  [.LDA, .LDX, .LDY, .AND, .ORA, .EOR, .ADC, .SBC, .CMP, .CPX, .CPY, .INC, .DEC, .INX, .INY, .DEX, .DEY, .ASL, .LSR, .ROL,
    .ROR, .TAX, .TAY, .TXA, .TYA, .TSX, .TXY, .TYX, .TCD, .TDC, .TSC, .XBA, .PLA, .PLX, .PLY, .PLB, .PLD, .BIT, .TSB, .TRB,
    .PLP, .RTI, .REP, .SEP]

/-- The mnemonics that write a part. -/
def Part.writers : Part → List Mnemonic
  | .PBR => [.JML, .JSL, .RTL, .RTI, .BRK, .COP]
  | .DBR => [.PLB, .MVN, .MVP]
  | .D => [.TCD, .PLD]
  | .SP =>
    [.PHA, .PHX, .PHY, .PHP, .PHB, .PHD, .PHK, .PLA, .PLX, .PLY, .PLP, .PLB, .PLD, .PEA, .PEI, .PER, .JSR, .JSL, .RTS, .RTL,
      .BRK, .COP, .RTI, .TXS, .TCS, .XCE]
  | .E => [.XCE]
  | .waiting => [.WAI]
  | .stopped => [.STP]
  | .mv => [.MVN, .MVP]
  | .nmiPending => []
  | .irqPending => []
  | .mem =>
    [.STA, .STX, .STY, .STZ, .TSB, .TRB, .PHA, .PHX, .PHY, .PHP, .PHB, .PHD, .PHK, .PEA, .PEI, .PER, .JSR, .JSL, .BRK, .COP,
      .MVN, .MVP, .ASL, .LSR, .ROL, .ROR, .INC, .DEC]
  | .flag .N => writersOfN
  | .flag .V => [.ADC, .SBC, .BIT, .CLV, .PLP, .RTI, .REP, .SEP]
  | .flag .M => [.PLP, .RTI, .REP, .SEP, .XCE]
  | .flag .X => [.PLP, .RTI, .REP, .SEP, .XCE]
  | .flag .D => [.SED, .CLD, .PLP, .RTI, .REP, .SEP, .BRK, .COP]
  | .flag .I => [.SEI, .CLI, .PLP, .RTI, .REP, .SEP, .BRK, .COP]
  | .flag .Z => writersOfZ
  | .flag .C => [.ADC, .SBC, .CMP, .CPX, .CPY, .ASL, .LSR, .ROL, .ROR, .CLC, .SEC, .XCE, .PLP, .RTI, .REP, .SEP]

/-! ### Operations that write listed parts and keep the invariant -/

/-- The invariant between block moves; item 5 of R36 then says nothing about `A`. -/
structure State.Settled (s : State) : Prop where
  inv : s.Inv
  idle : s.mv = .idle

/-- With no move in progress the invariant is about the mode, the widths, `SP`, the index registers and memory. -/
theorem State.Settled.of_same {s t : State} (h : s.Settled) (hE : t.E = s.E) (hfM : t.flag .M = s.flag .M)
    (hfX : t.flag .X = s.flag .X) (hSP : t.SP = s.SP) (hX : t.X = s.X) (hY : t.Y = s.Y) (hmv : t.mv = s.mv)
    (hm : t.mem.wf = true) : t.Settled := by
  have hidle : t.mv = .idle := hmv.trans h.idle
  refine ⟨⟨?_, ?_, fun hne => absurd hidle hne, hm⟩, hidle⟩
  · rw [hE, hfM, hfX, hSP]
    exact h.inv.emulation
  · rw [hfX, hX, hY]
    exact h.inv.index

/-- From `s` to `t` only the parts listed change, and the invariant is kept. -/
structure Tame (w : List Part) (s t : State) : Prop where
  same : ∀ p, p ∉ w → p.Same s t
  settled : s.Settled → t.Settled

theorem Tame.trans {w v : List Part} {s t u : State} (h : Tame w s t) (k : Tame v t u) : Tame (w ++ v) s u := by
  refine ⟨fun p hp => ?_, fun hs => k.settled (h.settled hs)⟩
  obtain ⟨hw, hv⟩ : p ∉ w ∧ p ∉ v := by simpa using hp
  exact (h.same p hw).trans (k.same p hv)

theorem Tame.of_portOnly {s t : State} (h : PortOnly s t) : Tame [] s t := by
  refine ⟨fun p _ => ?_, fun hs => ⟨hs.inv.of_portOnly h, ?_⟩⟩
  · rw [h]
    cases p <;> rfl
  · rw [h]
    exact hs.idle

theorem Tame.of_storeOnly {s t : State} (h : StoreOnly s t) (hm : s.mem.wf = true → t.mem.wf = true) : Tame [.mem] s t := by
  refine ⟨fun p hp => ?_, fun hs => ⟨hs.inv.of_storeOnly h (hm hs.inv.memory), ?_⟩⟩
  · rw [h]
    cases p with
    | mem => simp at hp
    | _ => rfl
  · rw [h]
    exact hs.idle

/-- A status byte that differs in some flags, M and X not among them. -/
theorem State.withP_tame (s : State) {p : Byte} (l : List Flag) (hp : KeepsFlags l s (s.withP p))
    (hl : Flag.M ∉ l ∧ Flag.X ∉ l) : Tame (l.map .flag) s (s.withP p) := by
  refine ⟨fun q hq => ?_, fun hs => hs.of_same rfl (hp .M hl.1) (hp .X hl.2) rfl rfl rfl rfl hs.inv.memory⟩
  cases q with
  | flag f => exact hp f (by simpa using hq)
  | _ => rfl

theorem State.setNZ_tame (s : State) (v : Word) (w : Width) : Tame [.flag .N, .flag .Z] s (s.setNZ v w) :=
  s.withP_tame [.N, .Z] (s.setNZ_keepsFlags v w) (by decide)

theorem State.putFlag_tame (s : State) (f : Flag) (b : Bool) (hf : f ≠ .M ∧ f ≠ .X) :
    Tame [.flag f] s (s.withP (putFlag s.P f b)) :=
  s.withP_tame [f] (s.withP_putFlag_spec f b).2 (by simpa [eq_comm] using hf)

/-- Registers that have no table and that the invariant does not read, while no move is in progress. -/
theorem State.setA_tame (s : State) (v : Word) : Tame [] s { s with A := v } :=
  ⟨fun p _ => by cases p <;> rfl, fun hs => hs.of_same rfl rfl rfl rfl rfl rfl rfl hs.inv.memory⟩

theorem State.setPC_tame (s : State) (v : Word) : Tame [] s { s with PC := v } :=
  ⟨fun p _ => by cases p <;> rfl, fun hs => hs.of_same rfl rfl rfl rfl rfl rfl rfl hs.inv.memory⟩

/-- R25: a transfer of control to another bank. -/
theorem State.setPCPBR_tame (s : State) (v : Word) (b : Byte) : Tame [.PBR] s { s with PC := v, PBR := b } := by
  refine ⟨fun p hp => ?_, fun hs => hs.of_same rfl rfl rfl rfl rfl rfl rfl hs.inv.memory⟩
  cases p with
  | PBR => simp at hp
  | _ => rfl

theorem State.setDBR_tame (s : State) (b : Byte) : Tame [.DBR] s { s with DBR := b } := by
  refine ⟨fun p hp => ?_, fun hs => hs.of_same rfl rfl rfl rfl rfl rfl rfl hs.inv.memory⟩
  cases p with
  | DBR => simp at hp
  | _ => rfl

theorem State.setD_tame (s : State) (v : Word) : Tame [.D] s { s with D := v } := by
  refine ⟨fun p hp => ?_, fun hs => hs.of_same rfl rfl rfl rfl rfl rfl rfl hs.inv.memory⟩
  cases p with
  | D => simp at hp
  | _ => rfl

theorem State.setWaiting_tame (s : State) : Tame [.waiting] s { s with waiting := true } := by
  refine ⟨fun p hp => ?_, fun hs => hs.of_same rfl rfl rfl rfl rfl rfl rfl hs.inv.memory⟩
  cases p with
  | waiting => simp at hp
  | _ => rfl

theorem State.setStopped_tame (s : State) : Tame [.stopped] s { s with stopped := true } := by
  refine ⟨fun p hp => ?_, fun hs => hs.of_same rfl rfl rfl rfl rfl rfl rfl hs.inv.memory⟩
  cases p with
  | stopped => simp at hp
  | _ => rfl

/-- R24: any value of `SP` that is legal for the mode. -/
theorem State.setSP_tame (s : State) {v : Word} (hv : s.E = true → hi8 v = 0x01#8) : Tame [.SP] s { s with SP := v } := by
  refine ⟨fun p hp => ?_, fun hs => ⟨⟨fun hE => ?_, hs.inv.index, hs.inv.move, hs.inv.memory⟩, hs.idle⟩⟩
  · cases p with
    | SP => simp at hp
    | _ => rfl
  · obtain ⟨hfM, hfX, -⟩ := hs.inv.emulation hE
    exact ⟨hfM, hfX, hv hE⟩

theorem hi8_pinStack_of_emulation (e : Bool) (v : Word) (he : e = true) : hi8 (pinStack e v) = 0x01#8 := by
  rw [he, hi8_pinStack]

/-- R23: at width 8 the high byte that is written is zero. -/
theorem hi8_indexValue_widthOf (v : Word) {x : Bool} (hx : x = true) : hi8 (indexValue v (widthOf x)) = 0 := by
  rw [hx]
  exact hi8_indexValue_w8 v

theorem State.writeX_tame (s : State) (v : Word) : Tame [] s (s.writeX v s.wX) := by
  refine ⟨fun p _ => by cases p <;> rfl, fun hs => ⟨⟨hs.inv.emulation, fun hX => ?_, hs.inv.move, hs.inv.memory⟩, hs.idle⟩⟩
  exact ⟨hi8_indexValue_widthOf v hX, (hs.inv.index hX).2⟩

theorem State.writeY_tame (s : State) (v : Word) : Tame [] s (s.writeY v s.wX) := by
  refine ⟨fun p _ => by cases p <;> rfl, fun hs => ⟨⟨hs.inv.emulation, fun hX => ?_, hs.inv.move, hs.inv.memory⟩, hs.idle⟩⟩
  exact ⟨(hs.inv.index hX).1, hi8_indexValue_widthOf v hX⟩

/-- The parts of `P`. -/
def allFlags : List Part :=
  [.flag .N, .flag .V, .flag .M, .flag .X, .flag .D, .flag .I, .flag .Z, .flag .C]

theorem flag_mem_allFlags (f : Flag) : Part.flag f ∈ allFlags := by
  cases f <;> simp [allFlags]

/-- R29: `SetP` forces the widths in emulation mode and clips the index registers to the new width. -/
theorem State.setP_tame (s : State) (v : Byte) : Tame allFlags s (s.setP v) := by
  refine ⟨fun p hp => ?_, fun hs => ⟨⟨fun hE => ?_, fun hX => ?_, hs.inv.move, hs.inv.memory⟩, hs.idle⟩⟩
  · cases p with
    | flag f => exact absurd (flag_mem_allFlags f) hp
    | _ => rfl
  · have hE : s.E = true := hE
    simp [State.flag_setP, hE, (hs.inv.emulation hE).2.2]
  · exact ⟨hi8_clipIndex _ s.X hX, hi8_clipIndex _ s.Y hX⟩

/-- R350: entering emulation mode makes all that the invariant asks of it true. -/
theorem xce_tame (s : State) : Tame [.E, .SP, .flag .M, .flag .X, .flag .C] s (xce s) := by
  refine ⟨fun p hp => ?_, fun hs => ?_⟩
  · cases p with
    | E | SP => simp at hp
    | flag f =>
      obtain ⟨hM, hX, hC⟩ : f ≠ .M ∧ f ≠ .X ∧ f ≠ .C := by simpa using hp
      simp [Part.Same, flag_xce, hM, hX, hC]
    | _ => rw [xce_eq]; rfl
  · have hmv : (xce s).mv = .idle := by rw [xce_eq]; exact hs.idle
    have hmem : (xce s).mem.wf = true := by rw [xce_eq]; exact hs.inv.memory
    refine ⟨⟨fun hE => ?_, fun hX => ?_, fun hne => absurd hmv hne, hmem⟩, hmv⟩
    · have hC : s.flag .C = true := (xce_E s).symm.trans hE
      refine ⟨by simp [flag_xce, hC], by simp [flag_xce, hC], ?_⟩
      rw [xce_of_carry_set hC]
      exact hi8_mkWord _ _
    · cases hC : s.flag .C with
      | true =>
        rw [xce_of_carry_set hC]
        exact ⟨hi8_mkWord _ _, hi8_mkWord _ _⟩
      | false =>
        have hfX : s.flag .X = true := by simpa [flag_xce, hC] using hX
        rw [xce_of_carry_clear hC]
        exact hs.inv.index hfX

/-! ### The shared operations -/

theorem State.writeOp_tame (s : State) (ea : EffAddr) (w : Width) (v : Word) : Tame [.mem] s (s.writeOp ea w v) :=
  .of_storeOnly (s.writeOp_storeOnly ea w v) (s.writeOp_wf ea w v)

theorem State.storeAt_tame (s : State) (mode : DataMode) (w : Width) (v : Word) : Tame [.mem] s (s.storeAt mode w v) :=
  .of_storeOnly (s.storeAt_storeOnly mode w v) (s.storeAt_wf mode w v)

theorem State.readSource_tame (s : State) (src : Source) (w : Width) : Tame [] s (s.readSource src w).2 :=
  .of_portOnly (s.readSource_portOnly src w)

theorem State.push8_tame (s : State) (v : Byte) : Tame [.mem, .SP] s (s.push8 v) := by
  have hstore : Tame [.mem] s (s.write8 (inBank0 s.SP) v) :=
    .of_storeOnly (s.write8_storeOnly _ v) (s.writeByte_wf _ v)
  exact hstore.trans (State.setSP_tame _ (s.push8_legal v))

theorem State.push16_tame (s : State) (v : Word) : Tame [.mem, .SP, .mem, .SP] s (s.push16 v) :=
  (s.push8_tame (hi8 v)).trans (State.push8_tame _ (lo8 v))

theorem Tame.mono {w v : List Part} {s t : State} (h : Tame w s t) (hwv : w ⊆ v) : Tame v s t :=
  ⟨fun p hp => h.same p fun hw => hp (hwv hw), h.settled⟩

theorem State.pushW_tame (s : State) (v : Word) (w : Width) : Tame [.mem, .SP, .mem, .SP] s (s.pushW v w) := by
  cases w with
  | w8 => exact (s.push8_tame (lo8 v)).mono (by simp)
  | w16 => exact s.push16_tame v

theorem State.pull8_tame (s : State) : Tame [.SP] s s.pull8.2 :=
  (s.setSP_tame s.pull8_legal).trans (.of_portOnly (State.read8_portOnly _ _))

theorem State.pull16_tame (s : State) : Tame [.SP, .SP] s s.pull16.2 :=
  s.pull8_tame.trans (State.pull8_tame _)

theorem State.pullW_tame (s : State) (w : Width) : Tame [.SP, .SP] s (s.pullW w).2 := by
  cases w with
  | w8 => exact s.pull8_tame.mono (by simp)
  | w16 => exact s.pull16_tame

end Sys2Proof.Machine

/-! ### The meanings, mnemonic by mnemonic -/

namespace Sys2Proof.Machine

/-- What an instruction does to the state, by mnemonic: the arms of `exec` with the forms of one mnemonic taken together. -/
inductive Meaning : Mnemonic → (State → State) → Prop
  | lda (src : Source) : Meaning .LDA (lda src)
  | ldx (src : Source) : Meaning .LDX (ldx src)
  | ldy (src : Source) : Meaning .LDY (ldy src)
  | sta (mode : DataMode) : Meaning .STA (sta mode)
  | stx (mode : DataMode) : Meaning .STX (stx mode)
  | sty (mode : DataMode) : Meaning .STY (sty mode)
  | stz (mode : DataMode) : Meaning .STZ (stz mode)
  | ora (src : Source) : Meaning .ORA (ora src)
  | andA (src : Source) : Meaning .AND (andA src)
  | eor (src : Source) : Meaning .EOR (eor src)
  | adc (src : Source) : Meaning .ADC (adc src)
  | sbc (src : Source) : Meaning .SBC (sbc src)
  | asl (tgt : Target) : Meaning .ASL (asl tgt)
  | lsr (tgt : Target) : Meaning .LSR (lsr tgt)
  | rol (tgt : Target) : Meaning .ROL (rol tgt)
  | ror (tgt : Target) : Meaning .ROR (ror tgt)
  | inc (tgt : Target) : Meaning .INC (inc tgt)
  | dec (tgt : Target) : Meaning .DEC (dec tgt)
  | cmp (src : Source) : Meaning .CMP (cmp src)
  | cpx (src : Source) : Meaning .CPX (cpx src)
  | cpy (src : Source) : Meaning .CPY (cpy src)
  | bit (src : Source) : Meaning .BIT (bit src)
  | tsb (mode : DataMode) : Meaning .TSB (tsb mode)
  | trb (mode : DataMode) : Meaning .TRB (trb mode)
  | inx : Meaning .INX fun s => s.putX (incResult s.P s.X s.wX)
  | iny : Meaning .INY fun s => s.putY (incResult s.P s.Y s.wX)
  | dex : Meaning .DEX fun s => s.putX (decResult s.P s.X s.wX)
  | dey : Meaning .DEY fun s => s.putY (decResult s.P s.Y s.wX)
  | tax : Meaning .TAX fun s => s.intoX s.A
  | tsx : Meaning .TSX fun s => s.intoX s.SP
  | tyx : Meaning .TYX fun s => s.intoX s.Y
  | tay : Meaning .TAY fun s => s.intoY s.A
  | txy : Meaning .TXY fun s => s.intoY s.X
  | txa : Meaning .TXA fun s => s.intoA s.X
  | tya : Meaning .TYA fun s => s.intoA s.Y
  | txs : Meaning .TXS fun s => { s with SP := pinStack s.E s.X }
  | tcs : Meaning .TCS fun s => { s with SP := pinStack s.E s.A }
  | tcd : Meaning .TCD fun s => { s with D := s.A }.setNZ s.A .w16
  | tdc : Meaning .TDC fun s => { s with A := s.D }.setNZ s.D .w16
  | tsc : Meaning .TSC fun s => { s with A := s.SP }.setNZ s.SP .w16
  | xba : Meaning .XBA fun s => { s with A := mkWord (lo8 s.A) (hi8 s.A) }.setNZ ((hi8 s.A).zeroExtend 16) .w8
  | branch {n : Mnemonic} (cond : State → Bool) (disp : Byte) : Meaning n fun s => s.branchIf (cond s) disp
  | brl (disp : Word) : Meaning .BRL fun s => { s with PC := relative16 s.PC disp }
  | jmpAbs (addr : Word) : Meaning .JMP fun s => { s with PC := addr }
  | jmpThrough (ea : State → EffAddr) : Meaning .JMP fun s => s.jumpThrough (ea s)
  | jmlLong (long : Addr) : Meaning .JML fun s => { s with PC := offsetOf long, PBR := bankOf long }
  | jmlThrough (addr : Word) : Meaning .JML (jumpLongThrough addr)
  | jsrAbs (addr : Word) : Meaning .JSR fun s => { s.pushReturn with PC := addr }
  | jsrIAbsX (addr : Word) : Meaning .JSR fun s => s.pushReturn.jumpThrough (s.programPointer addr)
  | jsl (long : Addr) :
      Meaning .JSL fun s => { (s.push8 s.PBR).pushReturn with PC := offsetOf long, PBR := bankOf long }
  | rts : Meaning .RTS returnShort
  | rtl : Meaning .RTL returnLong
  | pha : Meaning .PHA fun s => s.pushW s.A s.wM
  | phx : Meaning .PHX fun s => s.pushW s.X s.wX
  | phy : Meaning .PHY fun s => s.pushW s.Y s.wX
  | php : Meaning .PHP fun s => s.push8 s.P
  | phb : Meaning .PHB fun s => s.push8 s.DBR
  | phk : Meaning .PHK fun s => s.push8 s.PBR
  | phd : Meaning .PHD fun s => s.push16 s.D
  | pea (value : Word) : Meaning .PEA fun s => s.push16 value
  | per (disp : Word) : Meaning .PER fun s => s.push16 (relative16 s.PC disp)
  | pei (dp : Byte) : Meaning .PEI (pushIndirect dp)
  | pla : Meaning .PLA pla
  | plx : Meaning .PLX plx
  | ply : Meaning .PLY ply
  | plb : Meaning .PLB plb
  | pld : Meaning .PLD pld
  | plp : Meaning .PLP fun s => s.pull8.2.setP s.pull8.1
  | clc : Meaning .CLC fun s => s.withP (putFlag s.P .C false)
  | sec : Meaning .SEC fun s => s.withP (putFlag s.P .C true)
  | cli : Meaning .CLI fun s => s.withP (putFlag s.P .I false)
  | sei : Meaning .SEI fun s => s.withP (putFlag s.P .I true)
  | cld : Meaning .CLD fun s => s.withP (putFlag s.P .D false)
  | sed : Meaning .SED fun s => s.withP (putFlag s.P .D true)
  | clv : Meaning .CLV fun s => s.withP (putFlag s.P .V false)
  | rep (mask : Byte) : Meaning .REP fun s => s.setP (s.P &&& ~~~mask)
  | sep (mask : Byte) : Meaning .SEP fun s => s.setP (s.P ||| mask)
  | xce : Meaning .XCE xce
  | nop {n : Mnemonic} : Meaning n id
  | wai : Meaning .WAI fun s => { s with waiting := true }
  | stp : Meaning .STP fun s => { s with stopped := true }
  | brk : Meaning .BRK fun s => s.takeInterrupt .brk
  | cop : Meaning .COP fun s => s.takeInterrupt .cop
  | rti : Meaning .RTI State.returnFromInterrupt
  | mvn (dst src : Byte) : Meaning .MVN fun s => s.blockMove .up dst src
  | mvp (dst src : Byte) : Meaning .MVP fun s => s.blockMove .down dst src

theorem exec_meaning (i : Instr) : ∃ f, Meaning i.mnemonic f ∧ ∀ s, exec i s = .next (f s) := by
  cases i with
  | bpl d => exact ⟨_, .branch (fun s => !s.flag .N) d, fun _ => rfl⟩
  | bmi d => exact ⟨_, .branch (fun s => s.flag .N) d, fun _ => rfl⟩
  | bvc d => exact ⟨_, .branch (fun s => !s.flag .V) d, fun _ => rfl⟩
  | bvs d => exact ⟨_, .branch (fun s => s.flag .V) d, fun _ => rfl⟩
  | bcc d => exact ⟨_, .branch (fun s => !s.flag .C) d, fun _ => rfl⟩
  | bcs d => exact ⟨_, .branch (fun s => s.flag .C) d, fun _ => rfl⟩
  | bne d => exact ⟨_, .branch (fun s => !s.flag .Z) d, fun _ => rfl⟩
  | beq d => exact ⟨_, .branch (fun s => s.flag .Z) d, fun _ => rfl⟩
  | bra d => exact ⟨_, .branch (fun _ => true) d, fun _ => rfl⟩
  | jmpAbs addr => exact ⟨_, .jmpAbs addr, fun _ => rfl⟩
  | jmpIAbs addr => exact ⟨_, .jmpThrough (fun _ => inBank0 addr), fun _ => rfl⟩
  | jmpIAbsX addr => exact ⟨_, .jmpThrough (·.programPointer addr), fun _ => rfl⟩
  | jmlLong long => exact ⟨_, .jmlLong long, fun _ => rfl⟩
  | jmlILAbs addr => exact ⟨_, .jmlThrough addr, fun _ => rfl⟩
  | jsrAbs addr => exact ⟨_, .jsrAbs addr, fun _ => rfl⟩
  | jsrIAbsX addr => exact ⟨_, .jsrIAbsX addr, fun _ => rfl⟩
  | nop | wdm _ => exact ⟨_, .nop, fun _ => rfl⟩
  | _ => exact ⟨_, by constructor, fun _ => rfl⟩

end Sys2Proof.Machine

/-! ### What each meaning writes -/

namespace Sys2Proof.Machine

theorem Tame.refl (s : State) : Tame [] s s :=
  .of_portOnly (PortOnly.refl s)

theorem lda_tame (src : Source) (s : State) : Tame [.flag .N, .flag .Z] s (lda src s) :=
  (s.readSource_tame src s.wM).trans ((State.setA_tame _ _).trans (State.setNZ_tame _ _ _))

/-- A read leaves the index width, so that a write to `X` after it is one at width `wX`. -/
theorem State.readSource_wX (s : State) (src : Source) (w : Width) : (s.readSource src w).2.wX = s.wX := by
  simp [State.wX, State.flag]

theorem State.pullW_wX (s : State) (w : Width) : (s.pullW w).2.wX = s.wX := by
  simp [State.wX, State.flag]

theorem ldx_tame (src : Source) (s : State) : Tame [.flag .N, .flag .Z] s (ldx src s) := by
  have hwrite := State.writeX_tame (s.readSource src s.wX).2 (s.readSource src s.wX).1
  rw [State.readSource_wX] at hwrite
  exact (s.readSource_tame src s.wX).trans (hwrite.trans (State.setNZ_tame _ _ _))

theorem ldy_tame (src : Source) (s : State) : Tame [.flag .N, .flag .Z] s (ldy src s) := by
  have hwrite := State.writeY_tame (s.readSource src s.wX).2 (s.readSource src s.wX).1
  rw [State.readSource_wX] at hwrite
  exact (s.readSource_tame src s.wX).trans (hwrite.trans (State.setNZ_tame _ _ _))

/-- The function of an instruction leaves every flag outside the list as it was in `p`. -/
def LeavesFlags (l : List Flag) (p q : Byte) : Prop :=
  ∀ f, f ∉ l → getFlag q f = getFlag p f

theorem setNZ_leavesFlags (p : Byte) (v : Word) (w : Width) : LeavesFlags [.N, .Z] p (setNZ p v w) := by
  intro f hf
  obtain ⟨hN, hZ⟩ : f ≠ .N ∧ f ≠ .Z := by simpa using hf
  rw [getFlag_setNZ, if_neg hZ, if_neg hN]

theorem addFlags_leavesFlags (p : Byte) (a m : Word) (r : Word × Bool) (w : Width) :
    LeavesFlags [.N, .V, .Z, .C] p (addFlags p a m r w) := by
  intro f hf
  obtain ⟨hN, hV, hZ, hC⟩ : f ≠ .N ∧ f ≠ .V ∧ f ≠ .Z ∧ f ≠ .C := by simpa using hf
  rw [getFlag_addFlags, if_neg hZ, if_neg hN, if_neg hV, if_neg hC]

theorem compareFlags_leavesFlags (p : Byte) (a m : Word) (w : Width) :
    LeavesFlags [.N, .Z, .C] p (compareFlags p a m w) := by
  intro f hf
  obtain ⟨hN, hZ, hC⟩ : f ≠ .N ∧ f ≠ .Z ∧ f ≠ .C := by simpa using hf
  rw [getFlag_compareFlags, if_neg hZ, if_neg hN, if_neg hC]

theorem testZ_leavesFlags (p : Byte) (a m : Word) : LeavesFlags [.Z] p (testZ p a m) := by
  intro f hf
  rw [getFlag_testZ, if_neg (List.ne_of_not_mem_cons hf)]

theorem bitFlags_leavesFlags (p : Byte) (a m : Word) (w : Width) : LeavesFlags [.N, .V, .Z] p (bitFlags p a m w) := by
  intro f hf
  obtain ⟨hN, hV, hZ⟩ : f ≠ .N ∧ f ≠ .V ∧ f ≠ .Z := by simpa using hf
  rw [getFlag_bitFlags, if_neg hV, if_neg hN, if_neg hZ]

theorem carry_setNZ_leavesFlags (p : Byte) (c : Bool) (v : Word) (w : Width) :
    LeavesFlags [.N, .Z, .C] p (setNZ (putFlag p .C c) v w) := by
  intro f hf
  obtain ⟨hN, hZ, hC⟩ : f ≠ .N ∧ f ≠ .Z ∧ f ≠ .C := by simpa using hf
  rw [getFlag_setNZ, if_neg hZ, if_neg hN, getFlag_putFlag_ne _ _ _ _ hC]

/-- A status byte computed from that of an earlier state with the same `P`. -/
theorem State.withP_tame_of_leaves (s : State) {p q : Byte} {l : List Flag} (h : LeavesFlags l p q) (hp : s.P = p)
    (hl : Flag.M ∉ l ∧ Flag.X ∉ l) : Tame (l.map .flag) s (s.withP q) :=
  s.withP_tame l (fun f hf => (h f hf).trans (congrArg (getFlag · f) hp.symm)) hl

/-- R200: read, write `A`, write `P`. -/
theorem State.accumulate_tame (s : State) (f : Byte → Word → Word → Width → Word × Byte) (src : Source) {l : List Flag}
    (hf : ∀ p a m w, LeavesFlags l p (f p a m w).2) (hl : Flag.M ∉ l ∧ Flag.X ∉ l) :
    Tame (l.map .flag) s (s.accumulate f src) :=
  (s.readSource_tame src s.wM).trans ((State.setA_tame _ _).trans
    (State.withP_tame_of_leaves _ (hf s.P _ _ _) (s.readSource_P src s.wM) hl))

theorem logic_tame (op : Word → Word → Word) (src : Source) (s : State) :
    Tame [.flag .N, .flag .Z] s (logic op src s) :=
  s.accumulate_tame _ src (l := [.N, .Z]) (fun p _ _ w => setNZ_leavesFlags p _ w) (by decide)

theorem adc_tame (src : Source) (s : State) : Tame [.flag .N, .flag .V, .flag .Z, .flag .C] s (adc src s) :=
  s.accumulate_tame _ src (l := [.N, .V, .Z, .C]) (fun p a m w => addFlags_leavesFlags p a m _ w) (by decide)

theorem sbc_tame (src : Source) (s : State) : Tame [.flag .N, .flag .V, .flag .Z, .flag .C] s (sbc src s) :=
  s.accumulate_tame _ src (l := [.N, .V, .Z, .C]) (fun p a m w => addFlags_leavesFlags p a _ _ w) (by decide)

theorem State.compare_tame (s : State) (a : Word) (w : Width) (src : Source) :
    Tame [.flag .N, .flag .Z, .flag .C] s (s.compare a w src) :=
  (s.readSource_tame src w).trans
    (State.withP_tame_of_leaves _ (compareFlags_leavesFlags s.P a _ w) (s.readSource_P src w) (by decide))

theorem bit_tame (src : Source) (s : State) : Tame [.flag .N, .flag .V, .flag .Z] s (bit src s) := by
  have hread := s.readSource_tame src s.wM
  have hP := s.readSource_P src s.wM
  cases src with
  | imm v =>
    exact (hread.trans (State.withP_tame_of_leaves _ (testZ_leavesFlags s.P _ _) hP (by decide))).mono (by simp)
  | mem mode => exact hread.trans (State.withP_tame_of_leaves _ (bitFlags_leavesFlags s.P _ _ _) hP (by decide))

/-- R225: read, write `P`, write the target. -/
theorem State.modify_tame (s : State) (tgt : Target) (f : Byte → Word → Width → Word × Byte) {l : List Flag}
    (hf : ∀ p v w, LeavesFlags l p (f p v w).2) (hl : Flag.M ∉ l ∧ Flag.X ∉ l) :
    Tame (l.map .flag ++ [.mem]) s (s.modify tgt f) := by
  cases tgt with
  | acc =>
    have hacc : Tame (l.map .flag) s (s.modify .acc f) :=
      (s.setA_tame _).trans (State.withP_tame_of_leaves _ (hf s.P _ _) rfl hl)
    exact hacc.mono (List.subset_append_left _ _)
  | mem mode =>
    have hread := s.readSource_tame (.mem mode) s.wM
    have hP := s.readSource_P (.mem mode) s.wM
    exact hread.trans ((State.withP_tame_of_leaves _ (hf s.P _ _) hP hl).trans (State.writeOp_tame _ _ _ _))

/-- Shifts, rotates, INC and DEC: `C` with N and Z, or N and Z alone. -/
theorem State.modify_tame_of_NZC (s : State) (tgt : Target) {f : Byte → Word → Width → Word × Byte}
    (hf : ∀ p v w, ∃ c, (f p v w).2 = Sys2Proof.Machine.setNZ (putFlag p .C c) (f p v w).1 w) :
    Tame [.flag .N, .flag .Z, .flag .C, .mem] s (s.modify tgt f) := by
  refine s.modify_tame tgt f (l := [.N, .Z, .C]) (fun p v w => ?_) (by decide)
  obtain ⟨c, hc⟩ := hf p v w
  exact hc ▸ carry_setNZ_leavesFlags p c _ w

theorem State.modify_tame_of_NZ (s : State) (tgt : Target) {f : Byte → Word → Width → Word × Byte}
    (hf : ∀ p v w, (f p v w).2 = Sys2Proof.Machine.setNZ p (f p v w).1 w) :
    Tame [.flag .N, .flag .Z, .mem] s (s.modify tgt f) :=
  s.modify_tame tgt f (l := [.N, .Z]) (fun p v w => hf p v w ▸ setNZ_leavesFlags p _ w) (by decide)

theorem State.modify_tame_of_Z (s : State) (tgt : Target) {f : Byte → Word → Width → Word × Byte} (a : Word)
    (hf : ∀ p v w, (f p v w).2 = testZ p a v) : Tame [.flag .Z, .mem] s (s.modify tgt f) :=
  s.modify_tame tgt f (l := [.Z]) (fun p v w => hf p v w ▸ testZ_leavesFlags p a v) (by decide)

theorem State.putX_tame (s : State) {r : Word × Byte} (hr : r.2 = Sys2Proof.Machine.setNZ s.P r.1 s.wX) :
    Tame [.flag .N, .flag .Z] s (s.putX r) := by
  have hflags : LeavesFlags [.N, .Z] s.P r.2 := hr ▸ setNZ_leavesFlags s.P r.1 s.wX
  exact (s.writeX_tame r.1).trans (State.withP_tame_of_leaves _ hflags rfl (by decide))

theorem State.putY_tame (s : State) {r : Word × Byte} (hr : r.2 = Sys2Proof.Machine.setNZ s.P r.1 s.wX) :
    Tame [.flag .N, .flag .Z] s (s.putY r) := by
  have hflags : LeavesFlags [.N, .Z] s.P r.2 := hr ▸ setNZ_leavesFlags s.P r.1 s.wX
  exact (s.writeY_tame r.1).trans (State.withP_tame_of_leaves _ hflags rfl (by decide))

theorem State.intoX_tame (s : State) (v : Word) : Tame [.flag .N, .flag .Z] s (s.intoX v) :=
  (s.writeX_tame _).trans (State.setNZ_tame _ _ _)

theorem State.intoY_tame (s : State) (v : Word) : Tame [.flag .N, .flag .Z] s (s.intoY v) :=
  (s.writeY_tame _).trans (State.setNZ_tame _ _ _)

theorem State.intoA_tame (s : State) (v : Word) : Tame [.flag .N, .flag .Z] s (s.intoA v) :=
  (s.setA_tame _).trans (State.setNZ_tame _ _ _)

theorem State.branchIf_tame (s : State) (cond : Bool) (disp : Byte) : Tame [] s (s.branchIf cond disp) := by
  cases cond with
  | false => exact Tame.refl s
  | true => exact s.setPC_tame _

theorem State.jumpThrough_tame (s : State) (ea : EffAddr) : Tame [] s (s.jumpThrough ea) :=
  (Tame.of_portOnly (s.read16_portOnly ea)).trans (State.setPC_tame _ _)

theorem jumpLongThrough_tame (addr : Word) (s : State) : Tame [.PBR] s (jumpLongThrough addr s) :=
  (Tame.of_portOnly (s.read24_portOnly (inBank0 addr))).trans (State.setPCPBR_tame _ _ _)

theorem State.pushReturn_tame (s : State) : Tame [.mem, .SP, .mem, .SP] s s.pushReturn :=
  s.push16_tame _

theorem returnShort_tame (s : State) : Tame [.SP, .SP] s (returnShort s) :=
  s.pull16_tame.trans (State.setPC_tame _ _)

theorem returnLong_tame (s : State) : Tame [.SP, .SP, .SP, .PBR] s (returnLong s) :=
  s.pull16_tame.trans ((State.pull8_tame _).trans (State.setPCPBR_tame _ _ _))

theorem pushIndirect_tame (dp : Byte) (s : State) : Tame [.mem, .SP, .mem, .SP] s (pushIndirect dp s) :=
  (Tame.of_portOnly (s.read16_portOnly _)).trans (State.push16_tame _ _)

theorem pla_tame (s : State) : Tame [.SP, .SP, .flag .N, .flag .Z] s (pla s) :=
  (s.pullW_tame s.wM).trans ((State.setA_tame _ _).trans (State.setNZ_tame _ _ _))

theorem plx_tame (s : State) : Tame [.SP, .SP, .flag .N, .flag .Z] s (plx s) := by
  have hwrite := State.writeX_tame (s.pullW s.wX).2 (s.pullW s.wX).1
  rw [State.pullW_wX] at hwrite
  exact (s.pullW_tame s.wX).trans (hwrite.trans (State.setNZ_tame _ _ _))

theorem ply_tame (s : State) : Tame [.SP, .SP, .flag .N, .flag .Z] s (ply s) := by
  have hwrite := State.writeY_tame (s.pullW s.wX).2 (s.pullW s.wX).1
  rw [State.pullW_wX] at hwrite
  exact (s.pullW_tame s.wX).trans (hwrite.trans (State.setNZ_tame _ _ _))

theorem plb_tame (s : State) : Tame [.SP, .DBR, .flag .N, .flag .Z] s (plb s) :=
  s.pull8_tame.trans ((State.setDBR_tame _ _).trans (State.setNZ_tame _ _ _))

theorem pld_tame (s : State) : Tame [.SP, .SP, .D, .flag .N, .flag .Z] s (pld s) :=
  s.pull16_tame.trans ((State.setD_tame _ _).trans (State.setNZ_tame _ _ _))

theorem plp_tame (s : State) : Tame (.SP :: allFlags) s (s.pull8.2.setP s.pull8.1) :=
  s.pull8_tame.trans (State.setP_tame _ _)

/-- The parts a frame writes. -/
theorem State.pushFrame_tame (s : State) (kind : InterruptKind) : Tame [.mem, .SP] s (s.pushFrame kind) := by
  unfold State.pushFrame
  split
  · exact ((s.push16_tame _).trans (State.push8_tame _ _)).mono (by simp)
  · exact ((s.push8_tame _).trans ((State.push16_tame _ _).trans (State.push8_tame _ _))).mono (by simp)

theorem handlerStatus_leavesFlags (p : Byte) : LeavesFlags [.I, .D] p (handlerStatus p) := by
  intro f hf
  obtain ⟨hI, hD⟩ : f ≠ .I ∧ f ≠ .D := by simpa using hf
  rw [getFlag_handlerStatus, if_neg hD, if_neg hI]

/-- R388: the frame, the handler's status and bank, then the vector. -/
theorem State.takeInterrupt_tame (s : State) (kind : InterruptKind) :
    Tame [.mem, .SP, .flag .I, .flag .D, .PBR] s (s.takeInterrupt kind) :=
  (s.pushFrame_tame kind).trans
    ((State.withP_tame_of_leaves _ (handlerStatus_leavesFlags _) rfl (by decide)).trans
      ((State.setPCPBR_tame _ _ 0).trans
        ((Tame.of_portOnly (State.read16_portOnly _ _)).trans (State.setPC_tame _ _))))

theorem State.returnFromInterrupt_tame (s : State) :
    Tame (.PBR :: .SP :: allFlags) s s.returnFromInterrupt := by
  have hpulls : Tame (.SP :: allFlags ++ [.SP, .SP]) s ((s.pull8.2.setP s.pull8.1).pull16.2) :=
    (plp_tame s).trans (State.pull16_tame _)
  cases hE : s.E with
  | true =>
    have h := hpulls.trans (State.setPC_tame _ (s.pull8.2.setP s.pull8.1).pull16.1)
    rw [State.returnFromInterrupt_of_emulation hE]
    exact h.mono (by simp [allFlags])
  | false =>
    have h := hpulls.trans ((State.pull8_tame _).trans
      (State.setPCPBR_tame _ (s.pull8.2.setP s.pull8.1).pull16.1 (s.pull8.2.setP s.pull8.1).pull16.2.pull8.1))
    rw [State.returnFromInterrupt_of_native hE]
    exact h.mono (by simp [allFlags])

end Sys2Proof.Machine

/-! ### Block moves -/

namespace Sys2Proof.Machine

/-- What one byte of a block move leaves, moved last byte or not (R372). -/
theorem State.blockStep_eq (s : State) (dir : Direction) (dst src : Byte) :
    s.blockStep dir dst src = { s with
      A := s.A - 1
      X := stepOffset dir s.X s.wX
      Y := stepOffset dir s.Y s.wX
      PC := if s.A - 1 = 0xFFFF#16 then s.PC + 3 else s.PC
      DBR := if s.A - 1 = 0xFFFF#16 then dst else s.DBR
      mv := if s.A - 1 = 0xFFFF#16 then .idle else s.mv
      mem := Memory.write s.mem (mkAddr dst s.Y).toNat (s.answer (mkAddr src s.X))
      script := s.script.tail
      trace := .write (mkAddr dst s.Y) (s.answer (mkAddr src s.X)) ::
        .read (mkAddr src s.X) (s.answer (mkAddr src s.X)) :: s.trace } := by
  by_cases h : s.A - 1#16 = 0xFFFF#16
  · simp [State.blockStep, h]
  · simp [State.blockStep, h]

theorem hi8_stepOffset (dir : Direction) (v : Word) : hi8 (stepOffset dir v .w8) = 0 := by
  cases dir <;> exact hi8_and_mask8 _

/-- R372 makes item 5 of R36 true, whatever latch and `A` it starts from: the move stays active only while `A` has not reached
`$FFFF`. The offsets are cut to the index width. -/
theorem State.blockStep_inv {s u : State} (h : s.Inv) (hu : u = { s with PC := u.PC, mv := u.mv }) (dir : Direction)
    (dst src : Byte) : (u.blockStep dir dst src).Inv := by
  rw [hu, State.blockStep_eq]
  refine ⟨h.emulation, fun hX => ?_, fun hmv hA => hmv (if_pos hA), Memory.write_wf _ _ _ h.memory⟩
  have hw : s.wX = .w8 := congrArg widthOf (show s.flag .X = true from hX)
  exact ⟨(congrArg (fun w => hi8 (stepOffset dir s.X w)) hw).trans (hi8_stepOffset dir s.X),
    (congrArg (fun w => hi8 (stepOffset dir s.Y w)) hw).trans (hi8_stepOffset dir s.Y)⟩

/-- A block move writes no part but these. -/
theorem State.blockMove_same (s : State) (dir : Direction) (dst src : Byte) {p : Part} (hp : p ∉ [.mem, .mv, .DBR]) :
    p.Same s (s.blockMove dir dst src) := by
  rw [State.blockMove, State.blockStep_eq]
  cases p with
  | mem | mv | DBR => simp at hp
  | _ => rfl

/-! ### What `exec` writes -/

/-- What holds of the step from `s` to `t` that an instruction of mnemonic `n` makes. -/
structure Obeys (n : Mnemonic) (s t : State) : Prop where
  same : ∀ p : Part, n ∉ p.writers → p.Same s t
  inv : s.Settled → t.Inv

theorem Tame.obeys {w : List Part} {n : Mnemonic} {s t : State} (h : Tame w s t) (hw : ∀ p ∈ w, n ∈ p.writers) :
    Obeys n s t :=
  ⟨fun p hp => h.same p fun hpw => hp (hw p hpw), fun hs => (h.settled hs).inv⟩

theorem Tame.obeys_of_nil {n : Mnemonic} {s t : State} (h : Tame [] s t) : Obeys n s t :=
  h.obeys (by simp)

theorem State.blockMove_obeys (s : State) (dir : Direction) (dst src : Byte) {n : Mnemonic} (hn : n = .MVN ∨ n = .MVP) :
    Obeys n s (s.blockMove dir dst src) := by
  refine ⟨fun p hp => s.blockMove_same dir dst src fun hmem => hp ?_, fun hs => State.blockStep_inv hs.inv rfl dir dst src⟩
  simp only [List.mem_cons, List.not_mem_nil, or_false] at hmem
  obtain rfl | rfl | rfl := hmem <;> obtain rfl | rfl := hn <;> decide

theorem Meaning.obeys {n : Mnemonic} {f : State → State} (h : Meaning n f) (s : State) : Obeys n s (f s) := by
  cases h with
  | lda src => exact (lda_tame src s).obeys (by decide)
  | ldx src => exact (ldx_tame src s).obeys (by decide)
  | ldy src => exact (ldy_tame src s).obeys (by decide)
  | sta mode => exact (s.storeAt_tame mode s.wM _).obeys (by decide)
  | stx mode => exact (s.storeAt_tame mode s.wX _).obeys (by decide)
  | sty mode => exact (s.storeAt_tame mode s.wX _).obeys (by decide)
  | stz mode => exact (s.storeAt_tame mode s.wM 0).obeys (by decide)
  | ora src => exact (logic_tame (· ||| ·) src s).obeys (by decide)
  | andA src => exact (logic_tame (· &&& ·) src s).obeys (by decide)
  | eor src => exact (logic_tame (· ^^^ ·) src s).obeys (by decide)
  | adc src => exact (adc_tame src s).obeys (by decide)
  | sbc src => exact (sbc_tame src s).obeys (by decide)
  | asl tgt => exact (s.modify_tame_of_NZC tgt fun _ _ _ => ⟨_, rfl⟩).obeys (by decide)
  | lsr tgt => exact (s.modify_tame_of_NZC tgt fun _ _ _ => ⟨_, rfl⟩).obeys (by decide)
  | rol tgt => exact (s.modify_tame_of_NZC tgt fun _ _ _ => ⟨_, rfl⟩).obeys (by decide)
  | ror tgt => exact (s.modify_tame_of_NZC tgt fun _ _ _ => ⟨_, rfl⟩).obeys (by decide)
  | inc tgt => exact (s.modify_tame_of_NZ tgt fun _ _ _ => rfl).obeys (by decide)
  | dec tgt => exact (s.modify_tame_of_NZ tgt fun _ _ _ => rfl).obeys (by decide)
  | cmp src => exact (s.compare_tame _ s.wM src).obeys (by decide)
  | cpx src => exact (s.compare_tame _ s.wX src).obeys (by decide)
  | cpy src => exact (s.compare_tame _ s.wX src).obeys (by decide)
  | bit src => exact (bit_tame src s).obeys (by decide)
  | tsb mode => exact (s.modify_tame_of_Z (.mem mode) (s.readA s.wM) fun _ _ _ => rfl).obeys (by decide)
  | trb mode => exact (s.modify_tame_of_Z (.mem mode) (s.readA s.wM) fun _ _ _ => rfl).obeys (by decide)
  | inx => exact (s.putX_tame rfl).obeys (by decide)
  | iny => exact (s.putY_tame rfl).obeys (by decide)
  | dex => exact (s.putX_tame rfl).obeys (by decide)
  | dey => exact (s.putY_tame rfl).obeys (by decide)
  | tax => exact (s.intoX_tame s.A).obeys (by decide)
  | tsx => exact (s.intoX_tame s.SP).obeys (by decide)
  | tyx => exact (s.intoX_tame s.Y).obeys (by decide)
  | tay => exact (s.intoY_tame s.A).obeys (by decide)
  | txy => exact (s.intoY_tame s.X).obeys (by decide)
  | txa => exact (s.intoA_tame s.X).obeys (by decide)
  | tya => exact (s.intoA_tame s.Y).obeys (by decide)
  | txs => exact (s.setSP_tame (hi8_pinStack_of_emulation s.E s.X)).obeys (by decide)
  | tcs => exact (s.setSP_tame (hi8_pinStack_of_emulation s.E s.A)).obeys (by decide)
  | tcd => exact ((s.setD_tame _).trans (State.setNZ_tame _ _ _)).obeys (by decide)
  | tdc => exact ((s.setA_tame _).trans (State.setNZ_tame _ _ _)).obeys (by decide)
  | tsc => exact ((s.setA_tame _).trans (State.setNZ_tame _ _ _)).obeys (by decide)
  | xba => exact ((s.setA_tame _).trans (State.setNZ_tame _ _ _)).obeys (by decide)
  | branch cond disp => exact (s.branchIf_tame (cond s) disp).obeys_of_nil
  | brl disp => exact (s.setPC_tame _).obeys_of_nil
  | jmpAbs addr => exact (s.setPC_tame addr).obeys_of_nil
  | jmpThrough ea => exact (s.jumpThrough_tame (ea s)).obeys_of_nil
  | jmlLong long => exact (s.setPCPBR_tame _ _).obeys (by decide)
  | jmlThrough addr => exact (jumpLongThrough_tame addr s).obeys (by decide)
  | jsrAbs addr => exact (s.pushReturn_tame.trans (State.setPC_tame _ addr)).obeys (by decide)
  | jsrIAbsX addr => exact (s.pushReturn_tame.trans (State.jumpThrough_tame _ _)).obeys (by decide)
  | jsl long =>
    exact ((s.push8_tame s.PBR).trans ((State.pushReturn_tame _).trans (State.setPCPBR_tame _ _ _))).obeys (by decide)
  | rts => exact (returnShort_tame s).obeys (by decide)
  | rtl => exact (returnLong_tame s).obeys (by decide)
  | pha => exact (s.pushW_tame s.A s.wM).obeys (by decide)
  | phx => exact (s.pushW_tame s.X s.wX).obeys (by decide)
  | phy => exact (s.pushW_tame s.Y s.wX).obeys (by decide)
  | php => exact (s.push8_tame s.P).obeys (by decide)
  | phb => exact (s.push8_tame s.DBR).obeys (by decide)
  | phk => exact (s.push8_tame s.PBR).obeys (by decide)
  | phd => exact (s.push16_tame s.D).obeys (by decide)
  | pea value => exact (s.push16_tame value).obeys (by decide)
  | per disp => exact (s.push16_tame _).obeys (by decide)
  | pei dp => exact (pushIndirect_tame dp s).obeys (by decide)
  | pla => exact (pla_tame s).obeys (by decide)
  | plx => exact (plx_tame s).obeys (by decide)
  | ply => exact (ply_tame s).obeys (by decide)
  | plb => exact (plb_tame s).obeys (by decide)
  | pld => exact (pld_tame s).obeys (by decide)
  | plp => exact (plp_tame s).obeys (by decide)
  | clc => exact (s.putFlag_tame .C false (by decide)).obeys (by decide)
  | sec => exact (s.putFlag_tame .C true (by decide)).obeys (by decide)
  | cli => exact (s.putFlag_tame .I false (by decide)).obeys (by decide)
  | sei => exact (s.putFlag_tame .I true (by decide)).obeys (by decide)
  | cld => exact (s.putFlag_tame .D false (by decide)).obeys (by decide)
  | sed => exact (s.putFlag_tame .D true (by decide)).obeys (by decide)
  | clv => exact (s.putFlag_tame .V false (by decide)).obeys (by decide)
  | rep mask => exact (s.setP_tame _).obeys (by decide)
  | sep mask => exact (s.setP_tame _).obeys (by decide)
  | xce => exact (xce_tame s).obeys (by decide)
  | nop => exact (Tame.refl s).obeys_of_nil
  | wai => exact s.setWaiting_tame.obeys (by decide)
  | stp => exact s.setStopped_tame.obeys (by decide)
  | brk => exact (s.takeInterrupt_tame .brk).obeys (by decide)
  | cop => exact (s.takeInterrupt_tame .cop).obeys (by decide)
  | rti => exact s.returnFromInterrupt_tame.obeys (by decide)
  | mvn dst src => exact s.blockMove_obeys .up dst src (.inl rfl)
  | mvp dst src => exact s.blockMove_obeys .down dst src (.inr rfl)

/-- What `exec` of any instruction writes is what the tables of writers say, and from a state between block moves it keeps the
invariant. -/
theorem exec_obeys {i : Instr} {s t : State} (h : exec i s = .next t) : Obeys i.mnemonic s t := by
  obtain ⟨f, hf, hexec⟩ := exec_meaning i
  obtain rfl : f s = t := Host.Outcome.next.inj ((hexec s).symm.trans h)
  exact hf.obeys s

end Sys2Proof.Machine

/-! ## Invariants and reset (10_state.md R36, 70_reset_and_hazards.md R420) -/

namespace Sys2Proof.Machine

/-! ### What a step can do -/

theorem State.wake_eq_some {s w : State} (h : s.wake = some w) : w = { s with waiting := false } := by
  unfold State.wake at h
  split at h
  · split at h
    · exact (Option.some.inj h).symm
    · cases h
  · next hw =>
    have hwaiting : s.waiting = false := by simpa using hw
    rw [← Option.some.inj h, ← hwaiting]

theorem State.service_eq_some {s t : State} (h : s.service = some t) :
    s.nmiPending = true ∧ t = { s with nmiPending := false, mv := .idle }.takeInterrupt .nmi ∨
      s.irqPending = true ∧ s.flag .I = false ∧ t = { s with irqPending := false, mv := .idle }.takeInterrupt .irq := by
  unfold State.service at h
  split at h
  · next hn => exact .inl ⟨hn, (Option.some.inj h).symm⟩
  · split at h
    · next hi =>
      obtain ⟨hirq, hI⟩ : s.irqPending = true ∧ s.flag .I = false := by simpa using hi
      exact .inr ⟨hirq, hI, (Option.some.inj h).symm⟩
    · cases h

/-- R90: a step changes nothing, or takes an interrupt, or goes on to stages 5 to 7. -/
theorem step_cases {s t : State} (h : step s = .next t) :
    t = s ∨ ∃ w, s.wake = some w ∧ (w.service = some t ∨ w.service = none ∧ w.proceed = .next t) := by
  cases hs : s.stopped with
  | true => exact .inl (Host.Outcome.next.inj ((step_of_stopped hs).symm.trans h)).symm
  | false =>
    cases hw : s.wake with
    | none => exact .inl (Host.Outcome.next.inj ((step_of_wake_none hs hw).symm.trans h)).symm
    | some w =>
      refine .inr ⟨w, rfl, ?_⟩
      cases ht : w.service with
      | some u => exact .inl (congrArg some (Host.Outcome.next.inj ((step_of_service_some hs hw ht).symm.trans h)))
      | none => exact .inr ⟨rfl, (step_of_service_none hs hw ht).symm.trans h⟩

theorem State.fetchByte_tame (s : State) : Tame [] s s.fetchByte.2 :=
  (Tame.of_portOnly (s.read8_portOnly _)).trans (State.setPC_tame _ _)

theorem State.fetchBytes_tame (n : Nat) (s : State) : Tame [] s (State.fetchBytes n s).2 := by
  induction n generalizing s with
  | zero => exact Tame.refl s
  | succ n ih => exact s.fetchByte_tame.trans (ih _)

theorem State.fetch_tame (s : State) : Tame [] s s.fetch.2 :=
  s.fetchByte_tame.trans (State.fetchBytes_tame _ _)

/-! ### The invariant -/

/-- The invariant does not read the latches and `Waiting`. -/
theorem State.Inv.of_control {s t : State} (h : s.Inv)
    (ht : t = { s with waiting := t.waiting, nmiPending := t.nmiPending, irqPending := t.irqPending }) : t.Inv := by
  rw [ht]
  exact h.of_same rfl rfl rfl rfl rfl rfl rfl h.memory

/-- Taking an interrupt abandons a block move, so that item 5 of R36 is empty. -/
theorem State.Inv.service {s t : State} (h : s.Inv) (ht : s.service = some t) : t.Inv := by
  obtain ⟨-, rfl⟩ | ⟨-, -, rfl⟩ := State.service_eq_some ht
  · have hidle : ({ s with nmiPending := false, mv := .idle } : State).Settled :=
      ⟨⟨h.emulation, h.index, fun hne => absurd rfl hne, h.memory⟩, rfl⟩
    exact ((State.takeInterrupt_tame _ .nmi).settled hidle).inv
  · have hidle : ({ s with irqPending := false, mv := .idle } : State).Settled :=
      ⟨⟨h.emulation, h.index, fun hne => absurd rfl hne, h.memory⟩, rfl⟩
    exact ((State.takeInterrupt_tame _ .irq).settled hidle).inv

theorem State.Inv.proceed {s t : State} (h : s.Inv) (ht : s.proceed = .next t) : t.Inv := by
  cases hmv : s.mv with
  | active dir dst src =>
    obtain rfl : s.blockStep dir dst src = t := Host.Outcome.next.inj ((State.proceed_of_active hmv).symm.trans ht)
    exact State.blockStep_inv h rfl dir dst src
  | idle =>
    have hexec : exec s.fetch.1 s.fetch.2 = .next t := (State.proceed_of_idle hmv).symm.trans ht
    exact (exec_obeys hexec).inv (s.fetch_tame.settled ⟨h, hmv⟩)

/-- Settles O15: stages 3 and 4 leave a state between block moves, stage 5 moves a byte, and stage 7 runs an instruction in a
state between block moves, which keeps the invariant (`exec_obeys`). -/
theorem stepKeepsTheInvariant : Obligations.StepKeepsTheInvariant := by
  intro s t h ht
  obtain rfl | ⟨w, hw, hrest⟩ := step_cases ht
  · exact h
  · have hwake : w.Inv := h.of_control (by rw [State.wake_eq_some hw])
    obtain hserved | ⟨-, hproceed⟩ := hrest
    · exact hwake.service hserved
    · exact hwake.proceed hproceed

/-! ### Reset -/

/-- The flags after a reset: M, X and I set, D clear, the others drawn (R420). -/
theorem ResetDraw.getFlag_status (d : ResetDraw) (f : Flag) :
    getFlag d.status f =
      match f with
      | .N => d.n
      | .V => d.v
      | .Z => d.z
      | .C => d.c
      | .M | .X | .I => true
      | .D => false := by
  cases f <;> simp only [ResetDraw.status, getFlag_putFlag] <;> rfl

/-- The record of two reads of flat RAM. -/
theorem State.afterReads_pair_trace_of_ram (s : State) (h : s.script = []) (a b : Addr) :
    (s.afterReads [a, b]).trace = .read b (s.ram b) :: .read a (s.ram a) :: s.trace := by
  simp [State.afterReads, State.answer, h, State.ram]

theorem State.doReset_eq (s : State) (d : ResetDraw) :
    s.doReset d = { s.clear d with
      PC := ((s.clear d).read16 (inBank0 resetVector)).1
      script := ((s.clear d).read16 (inBank0 resetVector)).2.script
      trace := ((s.clear d).read16 (inBank0 resetVector)).2.trace } := rfl

/-- Settles O13: what R420 sets is what the items of R36 ask for. -/
theorem resetEstablishesTheInvariant : Obligations.ResetEstablishesTheInvariant := by
  intro s d hm
  rw [State.doReset_eq]
  exact ⟨fun _ => ⟨d.getFlag_status .M, d.getFlag_status .X, hi8_mkWord _ _⟩,
    fun _ => ⟨hi8_zeroExtend d.xl, hi8_zeroExtend d.yl⟩, fun h => absurd rfl h, hm⟩

/-- Settles O16: a step by O15, a reset by O13; the other events leave what the invariant reads, memory apart, which a write
keeps canonical. -/
theorem everyEventKeepsTheInvariant : Obligations.EveryEventKeepsTheInvariant := by
  intro ev s t h ht
  cases ev with
  | executeOne => exact stepKeepsTheInvariant s t h ht
  | reset d =>
    obtain rfl : s.doReset d = t := Host.Outcome.next.inj ht
    exact resetEstablishesTheInvariant s d h.memory
  | assertIrq | assertNmi =>
    cases ht
    exact h.of_control rfl
  | busWrite a v =>
    cases ht
    exact h.of_storeOnly rfl (Memory.write_wf s.mem a v h.memory)
  | answers script =>
    cases ht
    exact h.of_portOnly rfl

/-- Settles O12: the registers are those of `State.clear`, and the vector's two reads are the only accesses. -/
theorem resetLeavesTheSpecifiedValues : Obligations.ResetLeavesTheSpecifiedValues := by
  intro s d
  have hflag (f : Flag) : (s.doReset d).flag f = getFlag d.status f := rfl
  refine ⟨rfl, (hflag _).trans (d.getFlag_status _), (hflag _).trans (d.getFlag_status _),
    (hflag _).trans (d.getFlag_status _), (hflag _).trans (d.getFlag_status _), (hflag _).trans (d.getFlag_status _),
    (hflag _).trans (d.getFlag_status _), (hflag _).trans (d.getFlag_status _), (hflag _).trans (d.getFlag_status _),
    rfl, rfl, rfl, rfl, rfl, (mkWord_zero_high d.xl).symm, (mkWord_zero_high d.yl).symm, rfl, rfl, rfl, rfl, rfl,
    ⟨_, _, s.answers_pair _ _, rfl⟩, rfl, rfl, rfl, fun h => ?_⟩
  exact ⟨(s.clear d).read16_ram (inBank0 resetVector) h, s.afterReads_pair_trace_of_ram h _ _⟩

/-- Settles O14: `State.reset` is the reset with every draw zero, from a state whose memory lists nothing. -/
theorem resetStateMeetsTheInvariant : Obligations.ResetStateMeetsTheInvariant := by
  have hreset : State.reset = { State.reset with trace := [] }.doReset ⟨0, 0, 0, 0, false, false, false, false⟩ := by
    decide
  refine ⟨?_, _, hreset⟩
  rw [hreset]
  exact resetEstablishesTheInvariant _ _ rfl

end Sys2Proof.Machine

/-! ## Tables of writers (10_state.md R24 to R37) -/

namespace Sys2Proof.Machine

/-- A part that changed has the instruction among its writers. -/
theorem Obeys.mem_writers {n : Mnemonic} {s t : State} (h : Obeys n s t) {p : Part} (hne : ¬ p.Same s t) :
    n ∈ p.writers :=
  by_contra fun hn => hne (h.same p hn)

/-! ### Mnemonics of one form -/

theorem eq_rti_of_mnemonic {i : Instr} (h : i.mnemonic = .RTI) : i = .rti := by
  cases i with
  | rti => rfl
  | _ => cases h

theorem eq_xce_of_mnemonic {i : Instr} (h : i.mnemonic = .XCE) : i = .xce := by
  cases i with
  | xce => rfl
  | _ => cases h

theorem eq_wai_of_mnemonic {i : Instr} (h : i.mnemonic = .WAI) : i = .wai := by
  cases i with
  | wai => rfl
  | _ => cases h

theorem eq_stp_of_mnemonic {i : Instr} (h : i.mnemonic = .STP) : i = .stp := by
  cases i with
  | stp => rfl
  | _ => cases h

theorem eq_brk_of_mnemonic {i : Instr} (h : i.mnemonic = .BRK) : ∃ sig, i = .brk sig := by
  cases i with
  | brk sig => exact ⟨sig, rfl⟩
  | _ => cases h

theorem eq_cop_of_mnemonic {i : Instr} (h : i.mnemonic = .COP) : ∃ sig, i = .cop sig := by
  cases i with
  | cop sig => exact ⟨sig, rfl⟩
  | _ => cases h

/-! ### The registers -/

theorem State.takeInterrupt_PBR (s : State) (kind : InterruptKind) : (s.takeInterrupt kind).PBR = 0 := by
  rw [State.takeInterrupt_eq]

/-- Settles O17: of the writers of `PBR`, RTI leaves it in emulation mode and the entries of BRK and COP set it to `$00`. -/
theorem onlyLongTransfersWritePbr : Obligations.OnlyLongTransfersWritePbr := by
  intro i s t h hne
  have hw : i.mnemonic ∈ [Mnemonic.JML, .JSL, .RTL, .RTI, .BRK, .COP] := (exec_obeys h).mem_writers (p := .PBR) hne
  simp only [List.mem_cons, List.not_mem_nil, or_false] at hw
  obtain hn | hn | hn | hn | hn | hn := hw
  · exact .inl (by simp [hn])
  · exact .inl (by simp [hn])
  · exact .inl (by simp [hn])
  · refine .inr (.inl ⟨hn, Bool.eq_false_iff.mpr fun hE => hne ?_⟩)
    obtain rfl := eq_rti_of_mnemonic hn
    obtain rfl : s.returnFromInterrupt = t := Host.Outcome.next.inj h
    rw [State.returnFromInterrupt_of_emulation hE]
    rfl
  · obtain ⟨sig, rfl⟩ := eq_brk_of_mnemonic hn
    obtain rfl : s.takeInterrupt .brk = t := Host.Outcome.next.inj h
    exact .inr (.inr ⟨by simp [hn], s.takeInterrupt_PBR .brk⟩)
  · obtain ⟨sig, rfl⟩ := eq_cop_of_mnemonic hn
    obtain rfl : s.takeInterrupt .cop = t := Host.Outcome.next.inj h
    exact .inr (.inr ⟨by simp [hn], s.takeInterrupt_PBR .cop⟩)

theorem mnemonic_of_changed_E {i : Instr} {s t : State} (h : exec i s = .next t) (hne : t.E ≠ s.E) :
    i.mnemonic = .XCE :=
  List.mem_singleton.mp ((exec_obeys h).mem_writers (p := .E) hne)

theorem State.service_E {s t : State} (h : s.service = some t) : t.E = s.E := by
  obtain ⟨-, rfl⟩ | ⟨-, -, rfl⟩ := State.service_eq_some h
  · exact (State.takeInterrupt_tame _ .nmi).same .E (by simp)
  · exact (State.takeInterrupt_tame _ .irq).same .E (by simp)

/-- Settles O18: of the stages of a step only `exec` can change `E`, and only for an XCE. -/
theorem onlyXceChangesTheMode : Obligations.OnlyXceChangesTheMode := by
  refine ⟨fun i s t => mnemonic_of_changed_E, fun s t h hne => ?_⟩
  obtain rfl | ⟨w, hw, hrest⟩ := step_cases h
  · exact absurd rfl hne
  refine ⟨w, hw, ?_⟩
  have hwE : w.E = s.E := by rw [State.wake_eq_some hw]
  obtain hserved | ⟨-, hproceed⟩ := hrest
  · exact absurd ((State.service_E hserved).trans hwE) hne
  cases hmv : w.mv with
  | active dir dst src =>
    obtain rfl : w.blockStep dir dst src = t := Host.Outcome.next.inj ((State.proceed_of_active hmv).symm.trans hproceed)
    exact absurd (by rw [State.blockStep_eq, hwE]) hne
  | idle =>
    have hexec : exec w.fetch.1 w.fetch.2 = .next t := (State.proceed_of_idle hmv).symm.trans hproceed
    have hfetchE : w.fetch.2.E = w.E := w.fetch_tame.same .E (by simp)
    exact eq_xce_of_mnemonic (mnemonic_of_changed_E hexec fun hE => hne (hE.trans (hfetchE.trans hwE)))

/-- Settles O19, by the tables of writers. -/
theorem writersOfDbrDAndSp : Obligations.WritersOfDbrDAndSp :=
  fun _ _ _ h => ⟨(exec_obeys h).mem_writers (p := .DBR), (exec_obeys h).mem_writers (p := .D),
    (exec_obeys h).mem_writers (p := .SP)⟩

/-- Settles O20, by the tables of writers. -/
theorem writersOfEachFlag : Obligations.WritersOfEachFlag :=
  fun _ _ _ h => ⟨(exec_obeys h).mem_writers (p := .flag .N), (exec_obeys h).mem_writers (p := .flag .V),
    (exec_obeys h).mem_writers (p := .flag .M), (exec_obeys h).mem_writers (p := .flag .X),
    (exec_obeys h).mem_writers (p := .flag .D), (exec_obeys h).mem_writers (p := .flag .I),
    (exec_obeys h).mem_writers (p := .flag .Z), (exec_obeys h).mem_writers (p := .flag .C)⟩

/-- Settles O22: the only meanings that write `Waiting` and `Stopped` set them. -/
theorem writersOfTheControlSubState : Obligations.WritersOfTheControlSubState := by
  intro i s t h
  refine ⟨fun hne => ?_, fun hne => ?_, (exec_obeys h).mem_writers (p := .mv),
    (exec_obeys h).same .nmiPending List.not_mem_nil, (exec_obeys h).same .irqPending List.not_mem_nil⟩
  · have hn : i.mnemonic = .WAI := List.mem_singleton.mp ((exec_obeys h).mem_writers (p := .waiting) hne)
    obtain rfl := eq_wai_of_mnemonic hn
    obtain rfl : { s with waiting := true } = t := Host.Outcome.next.inj h
    exact ⟨rfl, rfl⟩
  · have hn : i.mnemonic = .STP := List.mem_singleton.mp ((exec_obeys h).mem_writers (p := .stopped) hne)
    obtain rfl := eq_stp_of_mnemonic hn
    obtain rfl : { s with stopped := true } = t := Host.Outcome.next.inj h
    exact ⟨rfl, rfl⟩

/-! ### Memory -/

/-- The accumulator form of a read-modify-write changes no memory. -/
theorem UsesTarget.mem_of_acc {g : Byte → Word → Width → Word × Byte} {i : Instr} {s t : State}
    (h : UsesTarget (fun tgt s => s.modify tgt g) i) (hacc : i.operand = .acc) (ht : exec i s = .next t) : t.mem = s.mem := by
  obtain ⟨tgt, htgt, hexec⟩ := h
  rw [hacc] at htgt
  obtain rfl : Target.acc = tgt := Option.some.inj htgt
  obtain rfl : s.modify .acc g = t := Host.Outcome.next.inj ((hexec s).symm.trans ht)
  rfl

theorem mem_of_acc {i : Instr} {s t : State} (hn : i.mnemonic ∈ [Mnemonic.ASL, .LSR, .ROL, .ROR, .INC, .DEC])
    (hacc : i.operand = .acc) (ht : exec i s = .next t) : t.mem = s.mem := by
  have hform := exec_forms i
  simp only [List.mem_cons, List.not_mem_nil, or_false] at hn
  obtain h | h | h | h | h | h := hn
  all_goals
    rw [h] at hform
    exact UsesTarget.mem_of_acc hform hacc ht

/-- Settles O21, by the table of writers, from which the accumulator forms are then shut out. -/
theorem onlyStoringInstructionsChangeMemory : Obligations.OnlyStoringInstructionsChangeMemory := by
  intro i s t h hne
  have hw : i.mnemonic ∈ Part.mem.writers := (exec_obeys h).mem_writers (p := .mem) hne
  obtain hstore | hmodify := List.mem_append.mp
    (show i.mnemonic ∈ [Mnemonic.STA, .STX, .STY, .STZ, .TSB, .TRB, .PHA, .PHX, .PHY, .PHP, .PHB, .PHD, .PHK, .PEA, .PEI,
      .PER, .JSR, .JSL, .BRK, .COP, .MVN, .MVP] ++ [Mnemonic.ASL, .LSR, .ROL, .ROR, .INC, .DEC] from hw)
  · exact .inl hstore
  · exact .inr ⟨hmodify, fun hacc => hne (mem_of_acc hmodify hacc h)⟩

end Sys2Proof.Machine

/-! ## The stages of a step that fetch nothing (10_state.md R32 to R35, 60_exceptions.md R383 to R393) -/

namespace Sys2Proof.Machine

theorem State.wake_of_running {s : State} (h : s.waiting = false) : s.wake = some s := by
  simp [State.wake, h]

/-- An assertion of either latch ends the wait. -/
theorem State.wake_of_pending {s : State} (h : s.waiting = true) (hp : s.nmiPending = true ∨ s.irqPending = true) :
    s.wake = some { s with waiting := false } := by
  rw [State.wake, if_pos h, if_pos (by simpa using hp)]

theorem State.service_of_nmi {s : State} (h : s.nmiPending = true) :
    s.service = some ({ s with nmiPending := false, mv := .idle }.takeInterrupt .nmi) := by
  simp [State.service, h]

theorem State.service_of_irq {s : State} (hn : s.nmiPending = false) (h : s.irqPending = true) (hI : s.flag .I = false) :
    s.service = some ({ s with irqPending := false, mv := .idle }.takeInterrupt .irq) := by
  simp [State.service, hn, h, hI]

theorem State.service_of_masked {s : State} (hn : s.nmiPending = false) (h : s.irqPending = false ∨ s.flag .I = true) :
    s.service = none := by
  rw [State.service, hn]
  obtain h | h := h
  · simp [h]
  · simp [h]

theorem State.flag_takeInterrupt (s : State) (kind : InterruptKind) (f : Flag) :
    (s.takeInterrupt kind).flag f = if f = .D then false else if f = .I then true else s.flag f := by
  rw [State.takeInterrupt_eq]
  exact getFlag_handlerStatus s.P f

/-- Settles O9: stage 1 answers the present state, and the assertions do not write `Stopped`. -/
theorem stoppedStepChangesNothing : Obligations.StoppedStepChangesNothing :=
  ⟨fun _ h => ⟨step_of_stopped h, step_of_stopped h, step_of_stopped h⟩, fun _ => ⟨rfl, rfl, rfl, rfl⟩⟩

/-- Settles O10: what stage 2 does by what is pending, and stages 3 and 4 in the state it leaves. A masked IRQ leaves the state
that a step of the running engine starts from. -/
theorem waitingStepWakesOnlyOnAssertion : Obligations.WaitingStepWakesOnlyOnAssertion := by
  intro s hs hw
  refine ⟨fun hn hi => step_of_wake_none hs (State.wake_of_nothing_pending hw hn hi), fun hn => ?_,
    fun hn hi hI => ?_, fun hn hi hI => ?_⟩
  · exact step_of_service_some hs (State.wake_of_pending hw (.inl hn)) (State.service_of_nmi hn)
  · exact step_of_service_some hs (State.wake_of_pending hw (.inr hi)) (State.service_of_irq hn hi hI)
  · have hservice : ({ s with waiting := false } : State).service = none := State.service_of_masked hn (.inr hI)
    rw [step_of_service_none hs (State.wake_of_pending hw (.inr hi)) hservice]
    exact (step_of_service_none (s := { s with waiting := false }) hs (State.wake_of_running rfl) hservice).symm

/-! ### The latches while an IRQ is masked -/

theorem State.blockStep_latches (s : State) (dir : Direction) (dst src : Byte) :
    (s.blockStep dir dst src).nmiPending = s.nmiPending ∧ (s.blockStep dir dst src).irqPending = s.irqPending := by
  rw [State.blockStep_eq]
  exact ⟨rfl, rfl⟩

theorem State.proceed_latches {s t : State} (h : s.proceed = .next t) :
    t.nmiPending = s.nmiPending ∧ t.irqPending = s.irqPending := by
  cases hmv : s.mv with
  | active dir dst src =>
    obtain rfl : s.blockStep dir dst src = t := Host.Outcome.next.inj ((State.proceed_of_active hmv).symm.trans h)
    exact s.blockStep_latches dir dst src
  | idle =>
    have hexec := exec_obeys ((State.proceed_of_idle hmv).symm.trans h)
    have hnmi : s.fetch.2.nmiPending = s.nmiPending := s.fetch_tame.same .nmiPending List.not_mem_nil
    have hirq : s.fetch.2.irqPending = s.irqPending := s.fetch_tame.same .irqPending List.not_mem_nil
    exact ⟨Eq.trans (hexec.same .nmiPending List.not_mem_nil) hnmi, Eq.trans (hexec.same .irqPending List.not_mem_nil) hirq⟩

/-- Settles O11: stage 3 looks at NMI first, stage 4 at an IRQ that `P.I` lets through; stages 5 to 7 leave the latches. -/
theorem nmiBeforeIrqAndIrqMaskedByI : Obligations.NmiBeforeIrqAndIrqMaskedByI := by
  intro s hs hw
  have hwake := State.wake_of_running hw
  refine ⟨fun hn => ⟨_, step_of_service_some hs hwake (State.service_of_nmi hn), rfl, ?_⟩, fun hn hi hI =>
    ⟨_, step_of_service_some hs hwake (State.service_of_irq hn hi hI), rfl, ?_⟩, fun hn hi hI => ?_⟩
  · simp [State.flag_takeInterrupt, State.takeInterrupt_fields]
  · simp [State.flag_takeInterrupt, State.takeInterrupt_fields]
  · obtain ⟨t, ht⟩ := s.proceed_next
    obtain ⟨hnmi, hirq⟩ := State.proceed_latches ht
    exact ⟨t, (step_of_service_none hs hwake (State.service_of_masked hn (.inr hI))).trans ht, hirq.trans hi,
      hnmi.trans hn⟩

/-! ### Timing (70_reset_and_hazards.md R437) -/

theorem State.cycles_of_not_serviced {s w : State} (h : s.stopped = false) (hw : s.wake = some w)
    (hs : w.service = none) : s.cycles = BitVec.ofNat 32 w.proceedCycles := by
  simp [State.cycles, h, hw, hs]

theorem State.proceedCycles_of_active {s : State} (h : s.mv ≠ .idle) : s.proceedCycles = 7 := by
  rw [State.proceedCycles]
  cases hmv : s.mv with
  | idle => exact absurd hmv h
  | active dir dst src => rfl

theorem State.proceedCycles_of_idle {s : State} (h : s.mv = .idle) : s.proceedCycles = s.fetch.2.instrCycles s.fetch.1 := by
  rw [State.proceedCycles, h]

/-- MVN and MVP are the instructions with a BLK operand. -/
theorem State.instrCycles_of_block {i : Instr} (h : i.mnemonic ∈ [Mnemonic.MVN, .MVP]) (s : State) :
    s.instrCycles i = 7 := by
  cases i with
  | mvn dst src | mvp dst src => rfl
  | _ => simp [Instr.mnemonic] at h

/-- Settles O60: with nothing serviced the count is that of stages 5 to 7. -/
theorem eachBlockMoveStepCostsSeven : Obligations.EachBlockMoveStepCostsSeven := by
  intro s hs hw hn hi
  rw [State.cycles_of_not_serviced hs (State.wake_of_running hw) (State.service_of_masked hn hi)]
  refine ⟨fun hmv => ?_, fun hmv hmnemonic => ?_⟩
  · rw [State.proceedCycles_of_active hmv]
    rfl
  · rw [State.proceedCycles_of_idle hmv, State.instrCycles_of_block hmnemonic]
    rfl

end Sys2Proof.Machine

/-! ## Decoding, encoding and the fetch (30_encoding.md R90 to R95) -/

namespace Sys2Proof.Laws

open RoundTrip in
/-- The family RoundTrip, whole. -/
theorem roundTrip : (i : Instr) → RoundTrip.Statement i
  | .brk a => brk a | .oraIDpX a => oraIDpX a | .cop a => cop a | .oraSr a => oraSr a | .tsbDp a => tsbDp a
  | .oraDp a => oraDp a | .aslDp a => aslDp a | .oraILDp a => oraILDp a | .oraImm a => oraImm a
  | .tsbAbs a => tsbAbs a | .oraAbs a => oraAbs a | .aslAbs a => aslAbs a | .oraLong a => oraLong a | .bpl a => bpl a
  | .oraIDpY a => oraIDpY a | .oraIDp a => oraIDp a | .oraISrY a => oraISrY a | .trbDp a => trbDp a
  | .oraDpX a => oraDpX a | .aslDpX a => aslDpX a | .oraILDpY a => oraILDpY a | .oraAbsY a => oraAbsY a
  | .trbAbs a => trbAbs a | .oraAbsX a => oraAbsX a | .aslAbsX a => aslAbsX a | .oraLongX a => oraLongX a
  | .jsrAbs a => jsrAbs a | .andIDpX a => andIDpX a | .jsl a => jsl a | .andSr a => andSr a | .bitDp a => bitDp a
  | .andDp a => andDp a | .rolDp a => rolDp a | .andILDp a => andILDp a | .andImm a => andImm a
  | .bitAbs a => bitAbs a | .andAbs a => andAbs a | .rolAbs a => rolAbs a | .andLong a => andLong a | .bmi a => bmi a
  | .andIDpY a => andIDpY a | .andIDp a => andIDp a | .andISrY a => andISrY a | .bitDpX a => bitDpX a
  | .andDpX a => andDpX a | .rolDpX a => rolDpX a | .andILDpY a => andILDpY a | .andAbsY a => andAbsY a
  | .bitAbsX a => bitAbsX a | .andAbsX a => andAbsX a | .rolAbsX a => rolAbsX a | .andLongX a => andLongX a
  | .eorIDpX a => eorIDpX a | .wdm a => wdm a | .eorSr a => eorSr a | .mvp a b => mvp a b | .eorDp a => eorDp a
  | .lsrDp a => lsrDp a | .eorILDp a => eorILDp a | .eorImm a => eorImm a | .jmpAbs a => jmpAbs a
  | .eorAbs a => eorAbs a | .lsrAbs a => lsrAbs a | .eorLong a => eorLong a | .bvc a => bvc a
  | .eorIDpY a => eorIDpY a | .eorIDp a => eorIDp a | .eorISrY a => eorISrY a | .mvn a b => mvn a b
  | .eorDpX a => eorDpX a | .lsrDpX a => lsrDpX a | .eorILDpY a => eorILDpY a | .eorAbsY a => eorAbsY a
  | .jmlLong a => jmlLong a | .eorAbsX a => eorAbsX a | .lsrAbsX a => lsrAbsX a | .eorLongX a => eorLongX a
  | .adcIDpX a => adcIDpX a | .per a => per a | .adcSr a => adcSr a | .stzDp a => stzDp a | .adcDp a => adcDp a
  | .rorDp a => rorDp a | .adcILDp a => adcILDp a | .adcImm a => adcImm a | .jmpIAbs a => jmpIAbs a
  | .adcAbs a => adcAbs a | .rorAbs a => rorAbs a | .adcLong a => adcLong a | .bvs a => bvs a
  | .adcIDpY a => adcIDpY a | .adcIDp a => adcIDp a | .adcISrY a => adcISrY a | .stzDpX a => stzDpX a
  | .adcDpX a => adcDpX a | .rorDpX a => rorDpX a | .adcILDpY a => adcILDpY a | .adcAbsY a => adcAbsY a
  | .jmpIAbsX a => jmpIAbsX a | .adcAbsX a => adcAbsX a | .rorAbsX a => rorAbsX a | .adcLongX a => adcLongX a
  | .bra a => bra a | .staIDpX a => staIDpX a | .brl a => brl a | .staSr a => staSr a | .styDp a => styDp a
  | .staDp a => staDp a | .stxDp a => stxDp a | .staILDp a => staILDp a | .bitImm a => bitImm a
  | .styAbs a => styAbs a | .staAbs a => staAbs a | .stxAbs a => stxAbs a | .staLong a => staLong a | .bcc a => bcc a
  | .staIDpY a => staIDpY a | .staIDp a => staIDp a | .staISrY a => staISrY a | .styDpX a => styDpX a
  | .staDpX a => staDpX a | .stxDpY a => stxDpY a | .staILDpY a => staILDpY a | .staAbsY a => staAbsY a
  | .stzAbs a => stzAbs a | .staAbsX a => staAbsX a | .stzAbsX a => stzAbsX a | .staLongX a => staLongX a
  | .ldyImm a => ldyImm a | .ldaIDpX a => ldaIDpX a | .ldxImm a => ldxImm a | .ldaSr a => ldaSr a
  | .ldyDp a => ldyDp a | .ldaDp a => ldaDp a | .ldxDp a => ldxDp a | .ldaILDp a => ldaILDp a | .ldaImm a => ldaImm a
  | .ldyAbs a => ldyAbs a | .ldaAbs a => ldaAbs a | .ldxAbs a => ldxAbs a | .ldaLong a => ldaLong a | .bcs a => bcs a
  | .ldaIDpY a => ldaIDpY a | .ldaIDp a => ldaIDp a | .ldaISrY a => ldaISrY a | .ldyDpX a => ldyDpX a
  | .ldaDpX a => ldaDpX a | .ldxDpY a => ldxDpY a | .ldaILDpY a => ldaILDpY a | .ldaAbsY a => ldaAbsY a
  | .ldyAbsX a => ldyAbsX a | .ldaAbsX a => ldaAbsX a | .ldxAbsY a => ldxAbsY a | .ldaLongX a => ldaLongX a
  | .cpyImm a => cpyImm a | .cmpIDpX a => cmpIDpX a | .rep a => rep a | .cmpSr a => cmpSr a | .cpyDp a => cpyDp a
  | .cmpDp a => cmpDp a | .decDp a => decDp a | .cmpILDp a => cmpILDp a | .cmpImm a => cmpImm a
  | .cpyAbs a => cpyAbs a | .cmpAbs a => cmpAbs a | .decAbs a => decAbs a | .cmpLong a => cmpLong a | .bne a => bne a
  | .cmpIDpY a => cmpIDpY a | .cmpIDp a => cmpIDp a | .cmpISrY a => cmpISrY a | .pei a => pei a
  | .cmpDpX a => cmpDpX a | .decDpX a => decDpX a | .cmpILDpY a => cmpILDpY a | .cmpAbsY a => cmpAbsY a
  | .jmlILAbs a => jmlILAbs a | .cmpAbsX a => cmpAbsX a | .decAbsX a => decAbsX a | .cmpLongX a => cmpLongX a
  | .cpxImm a => cpxImm a | .sbcIDpX a => sbcIDpX a | .sep a => sep a | .sbcSr a => sbcSr a | .cpxDp a => cpxDp a
  | .sbcDp a => sbcDp a | .incDp a => incDp a | .sbcILDp a => sbcILDp a | .sbcImm a => sbcImm a
  | .cpxAbs a => cpxAbs a | .sbcAbs a => sbcAbs a | .incAbs a => incAbs a | .sbcLong a => sbcLong a | .beq a => beq a
  | .sbcIDpY a => sbcIDpY a | .sbcIDp a => sbcIDp a | .sbcISrY a => sbcISrY a | .pea a => pea a
  | .sbcDpX a => sbcDpX a | .incDpX a => incDpX a | .sbcILDpY a => sbcILDpY a | .sbcAbsY a => sbcAbsY a
  | .jsrIAbsX a => jsrIAbsX a | .sbcAbsX a => sbcAbsX a | .incAbsX a => incAbsX a | .sbcLongX a => sbcLongX a
  | .php => php | .aslAcc => aslAcc | .phd => phd | .clc => clc | .incAcc => incAcc | .tcs => tcs | .plp => plp
  | .rolAcc => rolAcc | .pld => pld | .sec => sec | .decAcc => decAcc | .tsc => tsc | .rti => rti | .pha => pha
  | .lsrAcc => lsrAcc | .phk => phk | .cli => cli | .phy => phy | .tcd => tcd | .rts => rts | .pla => pla
  | .rorAcc => rorAcc | .rtl => rtl | .sei => sei | .ply => ply | .tdc => tdc | .dey => dey | .txa => txa
  | .phb => phb | .tya => tya | .txs => txs | .txy => txy | .tay => tay | .tax => tax | .plb => plb | .clv => clv
  | .tsx => tsx | .tyx => tyx | .iny => iny | .dex => dex | .wai => wai | .cld => cld | .phx => phx | .stp => stp
  | .inx => inx | .nop => nop | .xba => xba | .sed => sed | .plx => plx | .xce => xce

/-- What the decoder answers when the operand bytes are there. -/
theorem decode_cons {op : Byte} {m x : Bool} {bytes : List Byte} (h : operandCount op m x ≤ bytes.length) :
    decode m x (op :: bytes) = .ok (decodeOpcode op (fieldsOf m x bytes), bytes.drop (operandCount op m x)) := by
  rw [decode]
  exact if_neg (Nat.not_lt.mpr h)

theorem decode_nil (m x : Bool) : decode m x [] = .error .noOpcode := rfl

theorem decode_cons_of_short {op : Byte} {m x : Bool} {bytes : List Byte} (h : bytes.length < operandCount op m x) :
    decode m x (op :: bytes) = .error (.truncated op) := by
  rw [decode]
  exact if_pos h

/-- Settles O1: the operand bytes are as many as the opcode asks for, and the opcode's cell makes the instruction of them. -/
theorem decodeOfEncodeIsTheInstruction : Obligations.DecodeOfEncodeIsTheInstruction := by
  intro m x i rest h
  obtain ⟨hcount, hcell⟩ := roundTrip i m x rest h
  have hle : operandCount i.opcode m x ≤ (i.operand.bytes ++ rest).length := by simp [hcount]
  rw [encode, List.cons_append, decode_cons hle, hcell, hcount, List.drop_left]

/-! ### From bytes to bytes -/

theorem wordBytes_word (f : Fields) : wordBytes f.word = [f.b1, f.b2] := by
  simp [wordBytes, Fields.word]

theorem longBytes_long (f : Fields) : longBytes f.long = [f.b1, f.b2, f.b3] := by
  simp [longBytes, Fields.long, Fields.word]

theorem bytes_immM (f : Fields) : f.immM.bytes = [f.b1, f.b2, f.b3].take (if f.m then 1 else 2) := by
  rw [Fields.immM]
  cases f.m
  · exact wordBytes_word f
  · rfl

theorem bytes_immX (f : Fields) : f.immX.bytes = [f.b1, f.b2, f.b3].take (if f.x then 1 else 2) := by
  rw [Fields.immX]
  cases f.x
  · exact wordBytes_word f
  · rfl

theorem isByte_immM (f : Fields) : f.immM.isByte = f.m := by
  rw [Fields.immM]
  cases f.m <;> rfl

theorem isByte_immX (f : Fields) : f.immX.isByte = f.x := by
  rw [Fields.immX]
  cases f.x <;> rfl

/-- An operand that is made of the fields a decoder finds: its bytes are the first of them, as many as its format has, and the
width flags are those it is well-formed under. -/
def MadeOf (f : Fields) (o : Operand) : Prop :=
  o.bytes = [f.b1, f.b2, f.b3].take (o.format.operandBytes f.m f.x) ∧ o.wellFormed f.m f.x = true

/-- Every cell of the matrix makes its operand of the fields. -/
theorem madeOf_decodeOpcode (op : Byte) (f : Fields) : MadeOf f (decodeOpcode op f).operand := by
  revert op
  apply byte_cases
  intro n h
  interval_cases n <;>
    simp [MadeOf, Instr.operand, Operand.bytes, DataMode.bytes, Operand.format, DataMode.format, Format.operandBytes,
      Operand.wellFormed, wordBytes_word, longBytes_long, bytes_immM, bytes_immX, isByte_immM, isByte_immX]

/-- The fields are the first three bytes, as far as there are that many. -/
theorem take_fieldsOf {m x : Bool} {bytes : List Byte} {k : Nat} (hk : k ≤ 3) (hlen : k ≤ bytes.length) :
    [(fieldsOf m x bytes).b1, (fieldsOf m x bytes).b2, (fieldsOf m x bytes).b3].take k = bytes.take k := by
  apply List.ext_getElem (by simp [hk, hlen])
  intro j hj hj'
  obtain ⟨hj3, hjb⟩ : j < 3 ∧ j < bytes.length := by simp at hj hj'; omega
  have hget : bytes.getD j 0 = bytes[j] := List.getD_eq_getElem bytes 0 hjb
  interval_cases j <;> simpa [fieldsOf] using hget

/-- Settles O2: the decoder's answer has the opcode it was given, and its operand is made of the bytes that follow. -/
theorem encodeOfDecodeIsTheBytes : Obligations.EncodeOfDecodeIsTheBytes := by
  intro m x bytes i rest h
  cases bytes with
  | nil => simp [decode_nil] at h
  | cons op bytes =>
    by_cases hlen : bytes.length < operandCount op m x
    · simp [decode_cons_of_short hlen] at h
    have hle : operandCount op m x ≤ bytes.length := Nat.not_lt.mp hlen
    rw [decode_cons hle] at h
    obtain ⟨rfl, rfl⟩ := Prod.mk.inj (Except.ok.inj h)
    obtain ⟨hmade, hwf⟩ := madeOf_decodeOpcode op (fieldsOf m x bytes)
    have hcount : (decodeOpcode op (fieldsOf m x bytes)).operand.format.operandBytes m x = operandCount op m x :=
      (operandCount_eq_of_format rfl m x).symm
    have h3 : operandCount op m x ≤ 3 := operandBytes_le _ m x
    have hbytes : (decodeOpcode op (fieldsOf m x bytes)).operand.bytes = bytes.take (operandCount op m x) := by
      rw [← take_fieldsOf h3 hle, ← hcount]
      exact hmade
    refine ⟨?_, hwf⟩
    rw [encode, opcode_decodeOpcode, hbytes, List.cons_append, List.take_append_drop]

/-- Settles O5: each of the ten is one run of the decoder. -/
theorem exampleBytesDecode : Obligations.ExampleBytesDecode :=
  ⟨rfl, rfl, rfl, rfl, rfl, rfl, rfl, rfl, rfl, rfl⟩

end Sys2Proof.Laws

/-! ### The fetch (30_encoding.md R90, R91) -/

namespace Sys2Proof.Machine

/-- Where the bytes fetched are an instruction's, under the width flags before it, the fetch gives that instruction. -/
theorem State.fetch_of_fetchBytes {s u : State} {i : Instr} (hwf : i.wellFormed (s.flag .M) (s.flag .X) = true)
    (h : State.fetchBytes (encode i).length s = (encode i, u)) : s.fetch = (i, u) := by
  obtain ⟨hcount, hcell⟩ := Laws.roundTrip i _ _ [] hwf
  rw [List.append_nil] at hcell
  obtain ⟨hbytes, hu⟩ := Prod.mk.inj h
  obtain ⟨hop, hoperand⟩ := List.cons.inj hbytes
  have hu : (State.fetchBytes i.operand.bytes.length s.fetchByte.2).2 = u := hu
  have hoperand : (State.fetchBytes i.operand.bytes.length s.fetchByte.2).1 = i.operand.bytes := hoperand
  have hop : s.fetchByte.1 = i.opcode := hop
  rw [State.fetch, hop, hcount, hoperand, hu]
  exact congrArg (·, u) hcell

/-- The state after `n` fetches that went on record as `trace`. -/
def State.afterFetches (s : State) (n : Nat) (script : List (Option Byte)) (trace : List Access) : State :=
  { s with PC := s.PC + BitVec.ofNat 16 n, script := script, trace := trace }

theorem State.afterFetches_zero (s : State) : s.afterFetches 0 s.script s.trace = s := by
  simp [State.afterFetches]

/-- One fetch, then `n` more. -/
theorem State.afterFetches_succ {s u : State} {n : Nat} {script : List (Option Byte)} {trace : List Access}
    (hu : u = { s with PC := s.PC + 1, script := u.script, trace := u.trace }) :
    u.afterFetches n script trace = s.afterFetches (n + 1) script trace := by
  have hPC : s.PC + 1 + BitVec.ofNat 16 n = s.PC + BitVec.ofNat 16 (n + 1) := by
    rw [BitVec.add_assoc, Nat.add_comm n 1, BitVec.ofNat_add]
    rfl
  rw [hu, State.afterFetches, State.afterFetches, ← hPC]

theorem State.fetchByte_eq (s : State) : s.fetchByte = (s.answer (mkAddr s.PBR s.PC), { s with
    PC := s.PC + 1
    script := s.script.tail
    trace := .read (mkAddr s.PBR s.PC) (s.answer (mkAddr s.PBR s.PC)) :: s.trace }) := rfl

/-- The fetch of a byte known to be the port's answer, then of more. -/
theorem State.fetchBytes_succ {s u : State} {b : Byte} (n : Nat) (h : s.fetchByte = (b, u)) :
    State.fetchBytes (n + 1) s = (b :: (State.fetchBytes n u).1, (State.fetchBytes n u).2) := by
  rw [State.fetchBytes, h]

/-- Fetching bytes that the port answers by itself. -/
theorem State.fetchBytes_of_answered (bytes : List Byte) (s : State) (rest : List (Option Byte))
    (h : s.script = bytes.map some ++ rest) :
    State.fetchBytes bytes.length s =
      (bytes, s.afterFetches bytes.length rest (fetchRecord s.PBR s.PC bytes s.trace)) := by
  induction bytes generalizing s with
  | nil =>
    obtain rfl : s.script = rest := h
    exact congrArg ([], ·) s.afterFetches_zero.symm
  | cons b bytes ih =>
    have hanswer : s.answer (mkAddr s.PBR s.PC) = b := by rw [State.answer, h]; rfl
    have hfetch := s.fetchByte_eq
    rw [hanswer, h] at hfetch
    rw [List.length_cons, State.fetchBytes_succ _ hfetch, ih _ rfl]
    exact congrArg (b :: bytes, ·) (State.afterFetches_succ rfl)

/-- Whether bytes stand in RAM depends on RAM and `PBR` alone. -/
theorem State.HoldsAt.congr {s t : State} {bytes : List Byte} {o : Word} (h : s.HoldsAt o bytes) (hm : t.mem = s.mem)
    (hb : t.PBR = s.PBR) : t.HoldsAt o bytes := by
  induction bytes generalizing o with
  | nil => trivial
  | cons b bytes ih =>
    obtain ⟨hbyte, hrest⟩ := h
    refine ⟨?_, ih hrest⟩
    rwa [State.ram, hm, hb]

/-- Fetching bytes that stand in flat RAM. -/
theorem State.fetchBytes_of_holds (bytes : List Byte) (s : State) (h : s.script = []) (hb : s.HoldsAt s.PC bytes) :
    State.fetchBytes bytes.length s =
      (bytes, s.afterFetches bytes.length s.script (fetchRecord s.PBR s.PC bytes s.trace)) := by
  induction bytes generalizing s with
  | nil => exact congrArg ([], ·) s.afterFetches_zero.symm
  | cons b bytes ih =>
    obtain ⟨hram, hrest⟩ := hb
    have hanswer : s.answer (mkAddr s.PBR s.PC) = b := (s.answer_ram _ h).trans hram
    have hfetch := s.fetchByte_eq
    have htail : s.script.tail = s.script := by rw [h]; rfl
    rw [hanswer, htail] at hfetch
    have hbytes := ih { s with PC := s.PC + 1, trace := .read (mkAddr s.PBR s.PC) b :: s.trace } h
      (State.HoldsAt.congr hrest rfl rfl)
    rw [List.length_cons, State.fetchBytes_succ _ hfetch, hbytes]
    exact congrArg (b :: bytes, ·) (State.afterFetches_succ rfl)

/-- Stage 6 is reached. -/
theorem step_of_fetches {s : State} (h : s.Fetches) : step s = exec s.fetch.1 s.fetch.2 := by
  obtain ⟨hstop, hwait, hnmi, hirq, hmv⟩ := h
  rw [step_of_service_none hstop (State.wake_of_running hwait) (State.service_of_masked hnmi hirq),
    State.proceed_of_idle hmv]

/-- Settles O6: on flat RAM the bytes fetched are those that stand there. -/
theorem stepRunsTheDecodedInstruction : Obligations.StepRunsTheDecodedInstruction := by
  intro s i hf hs hwf hb
  rw [step_of_fetches hf, State.fetch_of_fetchBytes hwf (State.fetchBytes_of_holds (encode i) s hs hb)]
  rfl

/-- Settles O7: the bytes fetched are those the port answers. -/
theorem stepRunsTheAnsweredInstruction : Obligations.StepRunsTheAnsweredInstruction := by
  intro s i rest hf hwf hs
  rw [step_of_fetches hf, State.fetch_of_fetchBytes hwf (State.fetchBytes_of_answered (encode i) s rest hs)]
  rfl

end Sys2Proof.Machine

/-! ## The port, addresses and operands (20_memory.md R60 to R66, 40_addressing_modes.md R120 to R136) -/

namespace Sys2Proof.Machine

/-! ### Reads of the port -/

/-- Settles O23: the head of the script decides what the port answers. -/
theorem portReadAnswersAndIsRecorded : Obligations.PortReadAnswersAndIsRecorded := by
  refine fun s a => ⟨fun b rest h => ?_, fun rest h => ?_, fun h => ?_⟩
  · simp [State.readByte, State.answer, h]
  · simp [State.readByte, State.answer, State.ram, h]
  · simp [State.readByte, State.answer, State.ram, h]

/-- On flat RAM the answers are what RAM holds. -/
theorem State.answers_ram {s : State} (h : s.script = []) (addrs : List Addr) : s.answers addrs = addrs.map s.ram := by
  induction addrs generalizing s with
  | nil => rfl
  | cons a addrs ih =>
    have htail : s.script.tail = [] := by rw [h]; rfl
    exact congrArg₂ List.cons (s.answer_ram a h) (ih htail)

theorem State.afterReads_script_of_flat {s : State} (h : s.script = []) (addrs : List Addr) :
    (s.afterReads addrs).script = [] := by
  induction addrs generalizing s with
  | nil => exact h
  | cons a addrs ih => exact ih (by rw [h]; rfl)

theorem State.afterReads_ram (s : State) (addrs : List Addr) (a : Addr) : (s.afterReads addrs).ram a = s.ram a := by
  rw [State.ram, State.afterReads_mem, State.ram]

/-! ### A stored word read back -/

theorem State.readOp_w8_ram (s : State) (ea : EffAddr) (h : s.script = []) :
    (s.readOp ea .w8).1 = (s.ram ea.addr).zeroExtend 16 :=
  congrArg (BitVec.zeroExtend 16) (s.answer_ram ea.addr h)

theorem toNat_zeroExtend_byte (b : Byte) : (b.zeroExtend 16).toNat = b.toNat := by
  have := b.isLt
  rw [BitVec.toNat_setWidth]
  omega

/-- Settles O24: both bytes of the store land, the low byte first (R66). -/
theorem wordStoreReadsBackLittleEndian : Obligations.WordStoreReadsBackLittleEndian := by
  intro s ea v hm hs
  have hflat : (s.writeOp ea .w16 v).script = [] := (s.writeOp_script ea .w16 v).trans hs
  have hlow := s.writeOp_low ea .w16 v hm
  have hhigh := s.writeOp_high ea v hm
  refine ⟨?_, ?_, ?_⟩
  · rw [State.readOp, State.read16_ram _ _ hflat, hlow, hhigh, mkWord_hi8_lo8]
  · rw [State.readOp_w8_ram _ _ hflat, hlow, toNat_zeroExtend_byte, toNat_lo8]
  · rw [State.readOp_w8_ram _ _ hflat, hhigh, toNat_zeroExtend_byte, toNat_hi8]

/-! ### Effective addresses as numbers -/

theorem toNat_mkAddr_zero (o : Word) : (mkAddr 0 o).toNat = o.toNat := by
  simp

theorem State.toNat_directOffset (s : State) (b : Byte) :
    (s.directOffset b).toNat = (s.D.toNat + b.toNat) % 65536 := by
  rw [State.directOffset, BitVec.toNat_add, toNat_zeroExtend_byte]

theorem State.toNat_directOffset_add (s : State) (b : Byte) (x : Word) :
    (s.directOffset b + x).toNat = (s.D.toNat + b.toNat + x.toNat) % 65536 := by
  rw [BitVec.toNat_add, State.toNat_directOffset, Nat.mod_add_mod]

theorem State.toNat_stackOffset (s : State) (b : Byte) : (s.stackOffset b).toNat = (s.SP.toNat + b.toNat) % 65536 := by
  rw [State.stackOffset, BitVec.toNat_add, toNat_zeroExtend_byte]

theorem toNat_add_zeroExtend_word (a : Addr) (x : Word) : (a + x.zeroExtend 24).toNat = (a.toNat + x.toNat) % 2 ^ 24 := by
  have := x.isLt
  rw [BitVec.toNat_add, BitVec.toNat_setWidth]
  omega

theorem State.toNat_dataAddr (s : State) (o x : Word) :
    (s.dataAddr o x).addr.toNat = (65536 * s.DBR.toNat + o.toNat + x.toNat) % 2 ^ 24 := by
  rw [State.dataAddr, toNat_add_zeroExtend_word, toNat_mkAddr]

/-- Without an index there is no wrap: `{DBR, o}` is an address. -/
theorem State.toNat_dataAddr_zero (s : State) (o : Word) :
    (s.dataAddr o 0).addr.toNat = 65536 * s.DBR.toNat + o.toNat := by
  have hlt := (mkAddr s.DBR o).isLt
  rw [toNat_mkAddr] at hlt
  rw [State.toNat_dataAddr]
  exact Nat.mod_eq_of_lt hlt

/-- Settles O25: each of the nine addresses is a sum of words, or of an address and a word. -/
theorem effectiveAddressesWithoutPointer : Obligations.EffectiveAddressesWithoutPointer := by
  refine fun s b o l => ⟨⟨rfl, rfl, ?_⟩, ⟨rfl, rfl, ?_⟩, ⟨rfl, rfl, ?_⟩, ⟨rfl, rfl, ?_⟩, ⟨rfl, rfl, ?_⟩, ⟨rfl, rfl, ?_⟩,
    ⟨rfl, rfl, ?_⟩, ⟨rfl, rfl, rfl⟩, ⟨rfl, rfl, ?_⟩⟩
  · exact (toNat_mkAddr_zero _).trans (s.toNat_directOffset b)
  · exact (toNat_mkAddr_zero _).trans (s.toNat_directOffset_add b s.X)
  · exact (toNat_mkAddr_zero _).trans (s.toNat_directOffset_add b s.Y)
  · exact (toNat_mkAddr_zero _).trans (s.toNat_stackOffset b)
  · exact s.toNat_dataAddr_zero o
  · exact s.toNat_dataAddr o s.X
  · exact s.toNat_dataAddr o s.Y
  · exact toNat_add_zeroExtend_word l s.X

/-! ### Pointers in bank 0 -/

/-- The address of a number in bank 0, modulo 65536. -/
def bank0 (n : Nat) : Addr :=
  BitVec.ofNat 24 (n % 65536)

theorem inBank0_addr_of_toNat {o : Word} {n : Nat} (h : o.toNat = n % 65536) : (inBank0 o).addr = bank0 n := by
  apply BitVec.eq_of_toNat_eq
  rw [inBank0_addr, toNat_mkAddr_zero, h, bank0, BitVec.toNat_ofNat]
  omega

theorem inBank0_next_of_toNat {o : Word} {n : Nat} (h : o.toNat = n % 65536) : (inBank0 o).next.addr = bank0 (n + 1) := by
  rw [inBank0_next]
  apply inBank0_addr_of_toNat
  rw [BitVec.toNat_add, h]
  exact Nat.mod_add_mod n 65536 1

theorem inBank0_next_next_of_toNat {o : Word} {n : Nat} (h : o.toNat = n % 65536) :
    (inBank0 o).next.next.addr = bank0 (n + 2) := by
  rw [inBank0_next]
  apply inBank0_next_of_toNat (n := n + 1)
  rw [BitVec.toNat_add, h]
  exact Nat.mod_add_mod n 65536 1

/-- A two-byte pointer: the reads in order, and the number their answers stand for. -/
theorem State.read16_bank0 (s : State) {o : Word} {n : Nat} (h : o.toNat = n % 65536) :
    (s.read16 (inBank0 o)).2 = s.afterReads [bank0 n, bank0 (n + 1)] ∧
      (s.read16 (inBank0 o)).1.toNat = littleEndian (s.answers [bank0 n, bank0 (n + 1)]) := by
  rw [State.read16_toNat, State.read16_afterReads, inBank0_addr_of_toNat h, inBank0_next_of_toNat h]
  exact ⟨rfl, rfl⟩

theorem littleEndian_triple (l h b : Byte) : littleEndian [l, h, b] = (mkAddr b (mkWord h l)).toNat := by
  rw [toNat_mkAddr, toNat_mkWord]
  simp only [littleEndian]
  omega

theorem State.answers_triple (s : State) (a b c : Addr) :
    s.answers [a, b, c] = [s.answer a, (s.afterReads [a]).answer b, (s.afterReads [a, b]).answer c] := rfl

/-- A three-byte pointer, likewise. -/
theorem State.read24_bank0 (s : State) {o : Word} {n : Nat} (h : o.toNat = n % 65536) :
    (s.read24 (inBank0 o)).2 = s.afterReads [bank0 n, bank0 (n + 1), bank0 (n + 2)] ∧
      (s.read24 (inBank0 o)).1.toNat = littleEndian (s.answers [bank0 n, bank0 (n + 1), bank0 (n + 2)]) := by
  rw [← inBank0_addr_of_toNat h, ← inBank0_next_of_toNat h, ← inBank0_next_next_of_toNat h, State.answers_triple,
    littleEndian_triple]
  exact ⟨rfl, rfl⟩

/-- Settles O26: each mode reads its pointer in bank 0 and adds the data bank, or nothing, and its index. -/
theorem effectiveAddressesThroughPointer : Obligations.EffectiveAddressesThroughPointer := by
  intro s b
  obtain ⟨hd, hdn⟩ := s.read16_bank0 (s.toNat_directOffset b)
  obtain ⟨hx, hxn⟩ := s.read16_bank0 (s.toNat_directOffset_add b s.X)
  obtain ⟨hp, hpn⟩ := s.read16_bank0 (s.toNat_stackOffset b)
  obtain ⟨hl, hln⟩ := s.read24_bank0 (s.toNat_directOffset b)
  refine ⟨⟨hd, rfl, ?_⟩, ⟨hx, rfl, ?_⟩, ⟨hd, rfl, ?_⟩, ⟨hl, rfl, hln⟩, ⟨hl, rfl, ?_⟩, ⟨hp, rfl, ?_⟩,
    State.answers_ram⟩
  · exact (s.toNat_dataAddr_zero _).trans (congrArg _ hdn)
  · exact (s.toNat_dataAddr_zero _).trans (congrArg _ hxn)
  · exact (s.toNat_dataAddr _ s.Y).trans (congrArg (fun n => (65536 * s.DBR.toNat + n + s.Y.toNat) % 2 ^ 24) hdn)
  · exact (toNat_add_zeroExtend_word _ s.Y).trans (congrArg (fun n => (n + s.Y.toNat) % 2 ^ 24) hln)
  · exact (s.toNat_dataAddr _ s.Y).trans (congrArg (fun n => (65536 * s.DBR.toNat + n + s.Y.toNat) % 2 ^ 24) hpn)

/-! ### Operands -/

theorem State.readOp_afterReads (s : State) (ea : EffAddr) (w : Width) :
    (s.readOp ea w).2 = s.afterReads (ea.span w) := by
  cases w <;> rfl

theorem littleEndian_singleton (b : Byte) : littleEndian [b] = b.toNat := rfl

theorem State.toNat_readOp (s : State) (ea : EffAddr) (w : Width) :
    (s.readOp ea w).1.toNat = littleEndian (s.answers (ea.span w)) := by
  cases w with
  | w8 => exact toNat_zeroExtend_byte _
  | w16 => exact s.read16_toNat ea

/-- The pointer reads of a mode use up no scripted answer where there is none. -/
theorem State.resolve_script_of_flat {s : State} (h : s.script = []) (mode : DataMode) :
    (s.resolve mode).2.script = [] := by
  have h16 (ea : EffAddr) : (s.read16 ea).2.script = [] := by
    rw [State.read16_afterReads, State.afterReads_script_of_flat h]
  have h24 (ea : EffAddr) : (s.read24 ea).2.script = [] := by
    rw [State.read24_afterReads, State.afterReads_script_of_flat h]
  cases mode with
  | idp | idpX | idpY | isrY => exact h16 _
  | ildp | ildpY => exact h24 _
  | _ => exact h

theorem toNat_next_addr (a : Addr) (k : Reach) :
    (⟨a, k⟩ : EffAddr).next.addr.toNat =
      match k with
      | .lin => (a.toNat + 1) % 2 ^ 24
      | .wrap => 65536 * (a.toNat / 65536) + (a.toNat % 65536 + 1) % 65536 := by
  cases k with
  | lin => rfl
  | wrap =>
    change (mkAddr (bankOf a) (offsetOf a + 1)).toNat = _
    rw [toNat_mkAddr, toNat_bankOf, BitVec.toNat_add, toNat_offsetOf]
    rfl

/-- Settles O27: an immediate reads nothing, a memory form reads its span after the pointer. -/
theorem operandIsTheLiteralOrTheBytesAtItsAddress : Obligations.OperandIsTheLiteralOrTheBytesAtItsAddress := by
  refine ⟨fun _ _ _ => rfl, fun s v => congrArg (·, s) (mask_of_fits v .w16 (fits_word v)), fun s mode w => ?_,
    toNat_next_addr⟩
  have hafter := State.readOp_afterReads (s.resolve mode).2 (s.resolve mode).1 w
  have hvalue := State.toNat_readOp (s.resolve mode).2 (s.resolve mode).1 w
  have hflat (h : s.script = []) : (s.resolve mode).2.answers ((s.resolve mode).1.span w) =
      ((s.resolve mode).1.span w).map s.ram := by
    have hram : (s.resolve mode).2.ram = s.ram := funext fun a => by rw [State.ram, State.resolve_mem, State.ram]
    rw [State.answers_ram (State.resolve_script_of_flat h mode), hram]
  cases w with
  | w8 => exact ⟨hafter, hvalue, s.readSource_portOnly _ _, fun h => hvalue.trans (congrArg littleEndian (hflat h))⟩
  | w16 => exact ⟨hafter, hvalue, s.readSource_portOnly _ _, fun h => hvalue.trans (congrArg littleEndian (hflat h))⟩

/-! ### Jumps (46_branch_jump.md R292, R293) -/

/-- The three parts of a 24-bit read: what was answered, and the state after (R62, R64). -/
theorem State.read24_eq (s : State) (ea : EffAddr) :
    s.read24 ea =
      (mkAddr ((s.afterReads [ea.addr, ea.next.addr]).answer ea.next.next.addr)
        (mkWord ((s.afterReads [ea.addr]).answer ea.next.addr) (s.answer ea.addr)),
      s.afterReads [ea.addr, ea.next.addr, ea.next.next.addr]) := rfl

/-- R139: what `JML [abs]` reads, and the state it leaves. -/
theorem jumpLongThrough_spec (addr : Word) (s : State) :
    ∃ pl ph pb, s.answers [(inBank0 addr).addr, (inBank0 addr).next.addr, (inBank0 addr).next.next.addr] = [pl, ph, pb] ∧
      jumpLongThrough addr s =
        { s.afterReads [(inBank0 addr).addr, (inBank0 addr).next.addr, (inBank0 addr).next.next.addr] with
          PC := mkWord ph pl
          PBR := pb } := by
  refine ⟨_, _, _, s.answers_triple _ _ _, ?_⟩
  rw [jumpLongThrough, State.read24_eq]
  simp only [offsetOf_mkAddr, bankOf_mkAddr]

/-- The addresses of a pointer of up to three bytes in bank 0. -/
theorem inBank0_addrs (o : Word) :
    (inBank0 o).addr = mkAddr 0x00 (o + 0) ∧ (inBank0 o).next.addr = mkAddr 0x00 (o + 1) ∧
      (inBank0 o).next.next.addr = mkAddr 0x00 (o + 2) := by
  have htwo : o + 1 + 1 = o + 2 := BitVec.add_assoc o 1 1
  refine ⟨congrArg (mkAddr 0) (BitVec.add_zero o).symm, by rw [inBank0_next]; rfl, ?_⟩
  rw [inBank0_next, inBank0_next, htwo]
  rfl

/-- Settles O45: a jump loads `PC`, or `PC` and `PBR`, from its operand or from the pointer it reads. -/
theorem jumpsLoadTheirTarget : Obligations.JumpsLoadTheirTarget := by
  intro s o l
  obtain ⟨h0, h1, h2⟩ := inBank0_addrs o
  have hprog : (s.programPointer o).addr = mkAddr s.PBR (o + s.X + 0) :=
    congrArg (mkAddr s.PBR) (BitVec.add_zero (o + s.X)).symm
  obtain ⟨zl, zh, hzero, hjump⟩ := s.jumpThrough_spec (inBank0 o)
  obtain ⟨pl, ph, hprogram, hjumpX⟩ := s.jumpThrough_spec (s.programPointer o)
  obtain ⟨ll, lh, lb, hlong, hjumpLong⟩ := jumpLongThrough_spec o s
  rw [h0, h1] at hzero hjump
  rw [hprog, State.programPointer_next_addr] at hprogram hjumpX
  rw [h0, h1, h2] at hlong hjumpLong
  exact ⟨rfl, ⟨zl, zh, hzero, congrArg Host.Outcome.next hjump⟩, ⟨pl, ph, hprogram, congrArg Host.Outcome.next hjumpX⟩, rfl,
    ⟨ll, lh, lb, hlong, congrArg Host.Outcome.next hjumpLong⟩, State.answers_ram⟩

end Sys2Proof.Machine

/-! ## What stands on the stack (20_memory.md R68 to R71) -/

namespace Sys2Proof.Machine

/-- The bytes that pulls from the stack pointer `sp` find in memory, one after another, and the stack pointer `top` after
them. -/
def StackHolds (e : Bool) (m : Memory) : List Byte → Word → Word → Prop
  | [], sp, top => sp = top
  | b :: rest, sp, top =>
    Memory.read m (mkAddr 0 (stackUp e sp)).toNat = b ∧ StackHolds e m rest (stackUp e sp) top

/-- In either mode a pull moves the low byte of `SP` up by one. -/
theorem lo8_stackUp (e : Bool) (sp : Word) : lo8 (stackUp e sp) = lo8 sp + 1 := by
  cases e with
  | true => exact lo8_mkWord _ _
  | false =>
    apply BitVec.eq_of_toNat_eq
    rw [toNat_lo8, BitVec.toNat_add, toNat_lo8]
    change (sp.toNat + 1) % 65536 % 256 = (sp.toNat % 256 + 1) % 256
    omega

/-- A write below the stacked bytes: its address has a low byte that none of theirs has. -/
theorem StackHolds.write {e : Bool} {m : Memory} {bytes : List Byte} {sp top a : Word} (h : StackHolds e m bytes sp top)
    (v : Byte) (ha : ∀ j < bytes.length, lo8 a ≠ lo8 sp + 1 + BitVec.ofNat 8 j) :
    StackHolds e (Memory.write m (mkAddr 0 a).toNat v) bytes sp top := by
  induction bytes generalizing sp with
  | nil => exact h
  | cons b bytes ih =>
    obtain ⟨hread, hrest⟩ := h
    have hne : stackUp e sp ≠ a := by
      rintro rfl
      exact ha 0 (Nat.succ_pos _) (by rw [lo8_stackUp]; exact (BitVec.add_zero _).symm)
    refine ⟨?_, ih hrest fun j hj => ?_⟩
    · rw [Memory.read_write_ne _ _ _ _ fun heq => hne (mkAddr_inj.mp (BitVec.eq_of_toNat_eq heq)).2, hread]
    · have hj1 := ha (j + 1) (Nat.succ_lt_succ hj)
      rwa [Nat.add_comm j 1, BitVec.ofNat_add, ← BitVec.add_assoc, ← lo8_stackUp e sp] at hj1

/-- On flat RAM, pulls from `s` give these bytes, and `SP` is then `top`. -/
structure State.Stacked (s : State) (bytes : List Byte) (top : Word) : Prop where
  flat : s.script = []
  canonical : s.mem.wf = true
  holds : StackHolds s.E s.mem bytes s.SP top

/-- Only `SP`, the mode and the port matter. -/
theorem State.Stacked.congr {s t : State} {bytes : List Byte} {top : Word} (h : s.Stacked bytes top) (hE : t.E = s.E)
    (hSP : t.SP = s.SP) (hm : t.mem = s.mem) (hs : t.script = []) : t.Stacked bytes top := by
  refine ⟨hs, hm ▸ h.canonical, ?_⟩
  rw [hE, hSP, hm]
  exact h.holds

theorem State.Stacked.setPCPBR {s : State} {bytes : List Byte} {top : Word} (h : s.Stacked bytes top) (v : Word) (b : Byte) :
    ({ s with PC := v, PBR := b } : State).Stacked bytes top :=
  h.congr rfl rfl rfl h.flat

theorem State.stacked_nil {s : State} (hm : s.mem.wf = true) (hs : s.script = []) : s.Stacked [] s.SP :=
  ⟨hs, hm, rfl⟩

/-- R68: a push puts its byte on top, where `SP` is legal and the stack has not gone round its page. -/
theorem State.Stacked.push8 {s : State} {bytes : List Byte} {top : Word} (h : s.Stacked bytes top) (hl : s.StackLegal)
    (hlen : bytes.length < 255) (b : Byte) : (s.push8 b).Stacked (b :: bytes) top := by
  have hup : stackUp s.E (stackDown s.E s.SP) = s.SP := stackUp_stackDown s.E s.SP hl
  refine ⟨h.flat, s.push8_wf b h.canonical, ?_⟩
  change Memory.read _ (mkAddr 0 (stackUp s.E (stackDown s.E s.SP))).toNat = b ∧
    StackHolds s.E _ bytes (stackUp s.E (stackDown s.E s.SP)) top
  rw [hup]
  refine ⟨s.ram_push8_same b h.canonical, h.holds.write b fun j hj heq => ?_⟩
  have hnat := congrArg BitVec.toNat heq
  have hlt := (lo8 s.SP).isLt
  have hone : (1 : Byte).toNat = 1 := rfl
  rw [BitVec.toNat_add, BitVec.toNat_add, BitVec.toNat_ofNat, hone] at hnat
  omega

/-- R70: the low byte ends up on top. -/
theorem State.Stacked.push16 {s : State} {bytes : List Byte} {top : Word} (h : s.Stacked bytes top) (hl : s.StackLegal)
    (hlen : bytes.length < 254) (v : Word) : (s.push16 v).Stacked (lo8 v :: hi8 v :: bytes) top :=
  (h.push8 hl (by omega) (hi8 v)).push8 (s.push8_legal (hi8 v)) (Nat.succ_lt_succ hlen) (lo8 v)

/-- R69: a pull takes the byte on top. -/
theorem State.Stacked.pull8 {s : State} {b : Byte} {bytes : List Byte} {top : Word} (h : s.Stacked (b :: bytes) top) :
    s.pull8.1 = b ∧ s.pull8.2.Stacked bytes top := by
  obtain ⟨hread, hrest⟩ := h.holds
  exact ⟨(s.answer_ram _ h.flat).trans hread, by rw [State.pull8_script, h.flat]; rfl, h.canonical, hrest⟩

/-- R71: the low byte comes first. -/
theorem State.Stacked.pull16 {s : State} {l h : Byte} {bytes : List Byte} {top : Word}
    (hs : s.Stacked (l :: h :: bytes) top) : s.pull16.1 = mkWord h l ∧ s.pull16.2.Stacked bytes top := by
  obtain ⟨hl, hrest⟩ := hs.pull8
  obtain ⟨hh, hrest⟩ := hrest.pull8
  exact ⟨by rw [State.pull16_value, hl, hh], hrest⟩

/-- With nothing left stacked `SP` is back. -/
theorem State.Stacked.SP_eq {s : State} {top : Word} (h : s.Stacked [] top) : s.SP = top :=
  h.holds

/-- Settles O28: what a push stacks a pull takes. -/
theorem pullUndoesPush : Obligations.PullUndoesPush := by
  intro s b v hm hs hl
  have hnil := State.stacked_nil hm hs
  obtain ⟨hb, hrest⟩ := (hnil.push8 hl (by simp) b).pull8
  obtain ⟨hv, hrest16⟩ := (hnil.push16 hl (by simp) v).pull16
  rw [mkWord_hi8_lo8] at hv
  exact ⟨hb, hrest.SP_eq, hv, hrest16.SP_eq, fun hE => ⟨s.push8_legal b hE, s.push16_legal v hE, s.pull8_legal hE⟩⟩

/-! ### A return after its call (46_branch_jump.md R294 to R297) -/

theorem mkWord_pushReturn (pc : Word) : mkWord (hi8 (pc - 1)) (lo8 (pc - 1)) + 1 = pc := by
  rw [mkWord_hi8_lo8]
  exact BitVec.sub_add_cancel pc 1

/-- An RTS where a return offset stands on top. -/
theorem returnShort_of_stacked {s : State} {pc top : Word} (h : s.Stacked [lo8 (pc - 1), hi8 (pc - 1)] top) :
    (returnShort s).PC = pc ∧ (returnShort s).SP = top := by
  obtain ⟨hv, hrest⟩ := h.pull16
  refine ⟨?_, hrest.SP_eq⟩
  rw [← mkWord_pushReturn pc, ← hv]
  rfl

/-- An RTL where a return offset stands on top of a bank. -/
theorem returnLong_of_stacked {s : State} {pc top : Word} {b : Byte}
    (h : s.Stacked [lo8 (pc - 1), hi8 (pc - 1), b] top) :
    (returnLong s).PC = pc ∧ (returnLong s).PBR = b ∧ (returnLong s).SP = top := by
  obtain ⟨hv, hrest⟩ := h.pull16
  obtain ⟨hb, hrest⟩ := hrest.pull8
  refine ⟨?_, hb, hrest.SP_eq⟩
  rw [← mkWord_pushReturn pc, ← hv]
  rfl

/-- The registers that neither a call nor a return writes. -/
def SameRegisters (s t : State) : Prop :=
  t.P = s.P ∧ t.A = s.A ∧ t.X = s.X ∧ t.Y = s.Y

/-- R294: JSR stacks its return offset in either form. -/
theorem State.pushReturn_stacked {s : State} (hm : s.mem.wf = true) (hs : s.script = []) (hl : s.StackLegal) :
    s.pushReturn.Stacked [lo8 (s.PC - 1), hi8 (s.PC - 1)] s.SP :=
  (State.stacked_nil hm hs).push16 hl (by simp) (s.PC - 1)

/-- R295: JSL stacks it on top of the bank. -/
theorem State.push8_pushReturn_stacked {s : State} (hm : s.mem.wf = true) (hs : s.script = []) (hl : s.StackLegal) (b : Byte) :
    (s.push8 b).pushReturn.Stacked [lo8 (s.PC - 1), hi8 (s.PC - 1), b] s.SP :=
  ((State.stacked_nil hm hs).push8 hl (by simp) b).push16 (s.push8_legal b) (by simp) (s.PC - 1)

theorem State.jumpThrough_stacked {s : State} {bytes : List Byte} {top : Word} (h : s.Stacked bytes top) (ea : EffAddr) :
    (s.jumpThrough ea).Stacked bytes top := by
  refine h.congr rfl rfl rfl ?_
  change s.script.tail.tail = []
  rw [h.flat]
  rfl

theorem State.pushReturn_registers (s : State) : s.pushReturn.PBR = s.PBR ∧ SameRegisters s s.pushReturn := by
  simp [State.pushReturn, SameRegisters]

theorem State.push8_pushReturn_registers (s : State) (b : Byte) : SameRegisters s (s.push8 b).pushReturn := by
  simp [State.pushReturn, SameRegisters]

/-- A jump through a pointer writes `PC` alone. -/
theorem State.jumpThrough_registers (s : State) (ea : EffAddr) :
    (s.jumpThrough ea).PBR = s.PBR ∧ SameRegisters s (s.jumpThrough ea) := by
  simp [State.jumpThrough, SameRegisters]

theorem SameRegisters.trans {s t u : State} (h : SameRegisters s t) (k : SameRegisters t u) : SameRegisters s u := by
  obtain ⟨hP, hA, hX, hY⟩ := h
  obtain ⟨kP, kA, kX, kY⟩ := k
  exact ⟨kP.trans hP, kA.trans hA, kX.trans hX, kY.trans hY⟩

/-- From a state that a JSR left, an RTS comes back. -/
theorem returnShort_comesBack {s t : State} (hstack : t.Stacked [lo8 (s.PC - 1), hi8 (s.PC - 1)] s.SP)
    (hbank : t.PBR = s.PBR) (hregs : SameRegisters s t) :
    (returnShort t).PC = s.PC ∧ (returnShort t).PBR = s.PBR ∧ (returnShort t).SP = s.SP ∧
      SameRegisters s (returnShort t) := by
  obtain ⟨hPC, hSP⟩ := returnShort_of_stacked hstack
  exact ⟨hPC, hbank, hSP, hregs⟩

/-- From a state that a JSL left, an RTL comes back. -/
theorem returnLong_comesBack {s t : State} (hstack : t.Stacked [lo8 (s.PC - 1), hi8 (s.PC - 1), s.PBR] s.SP)
    (hregs : SameRegisters s t) :
    (returnLong t).PC = s.PC ∧ (returnLong t).PBR = s.PBR ∧ (returnLong t).SP = s.SP ∧
      SameRegisters s (returnLong t) := by
  obtain ⟨hPC, hPBR, hSP⟩ := returnLong_of_stacked hstack
  exact ⟨hPC, hPBR, hSP, hregs⟩

/-- Settles O48: the call stacks what the return takes; neither writes `A`, `X`, `Y` or `P`. -/
theorem returnAfterCallComesBack : Obligations.ReturnAfterCallComesBack := by
  intro s l o t u hm hs hl
  have hshort := State.pushReturn_stacked hm hs hl
  have hlong := State.push8_pushReturn_stacked hm hs hl s.PBR
  obtain ⟨hbank, hregs⟩ := s.pushReturn_registers
  refine ⟨fun ht hu => ?_, fun ht hu => ?_, fun ht hu => ?_⟩
  · obtain rfl : returnLong t = u := Host.Outcome.next.inj hu
    have ht : { (s.push8 s.PBR).pushReturn with PC := offsetOf l, PBR := bankOf l } = t := Host.Outcome.next.inj ht
    have hstack : t.Stacked [lo8 (s.PC - 1), hi8 (s.PC - 1), s.PBR] s.SP := ht ▸ hlong.setPCPBR _ _
    exact returnLong_comesBack hstack (ht ▸ s.push8_pushReturn_registers s.PBR)
  · obtain rfl : returnShort t = u := Host.Outcome.next.inj hu
    have ht : { s.pushReturn with PC := o } = t := Host.Outcome.next.inj ht
    have hstack : t.Stacked [lo8 (s.PC - 1), hi8 (s.PC - 1)] s.SP := ht ▸ hshort.setPCPBR o _
    exact returnShort_comesBack hstack (ht ▸ hbank) (ht ▸ hregs)
  · obtain rfl : returnShort t = u := Host.Outcome.next.inj hu
    have ht : s.pushReturn.jumpThrough (s.programPointer o) = t := Host.Outcome.next.inj ht
    obtain ⟨hjbank, hjregs⟩ := s.pushReturn.jumpThrough_registers (s.programPointer o)
    have hstack : t.Stacked [lo8 (s.PC - 1), hi8 (s.PC - 1)] s.SP := ht ▸ State.jumpThrough_stacked hshort _
    exact returnShort_comesBack hstack (ht ▸ hjbank.trans hbank) (ht ▸ hregs.trans hjregs)

/-! ## Interrupts (60_exceptions.md R381 to R391) -/

/-- What every entry does, whatever its kind: the frame, the vector read after it, and the handler's status (R388). -/
theorem State.takeInterrupt_spec (s : State) (kind : InterruptKind) :
    ∃ u vl vh,
      Pushes ((if s.E then [] else [s.PBR]) ++ [hi8 s.PC, lo8 s.PC, pushedStatus kind s.E s.P]) s u ∧
      u.answers [mkAddr 0x00 (vector kind s.E), mkAddr 0x00 (vector kind s.E + 1)] = [vl, vh] ∧
      s.takeInterrupt kind =
        { u.afterReads [mkAddr 0x00 (vector kind s.E), mkAddr 0x00 (vector kind s.E + 1)] with
          P := (s.takeInterrupt kind).P
          PBR := 0x00
          PC := mkWord vh vl } ∧
      (s.takeInterrupt kind).flag .I = true ∧ (s.takeInterrupt kind).flag .D = false ∧
      KeepsFlags [.I, .D] s (s.takeInterrupt kind) := by
  refine ⟨s.pushFrame kind, _, _, s.pushFrame_pushes kind, State.answers_pair _ _ _, ?_,
    by simp [State.flag_takeInterrupt], by simp [State.flag_takeInterrupt], fun f hf => ?_⟩
  · rw [State.takeInterrupt_eq, State.read16_eq, inBank0_next]
    rfl
  · obtain ⟨hI, hD⟩ : f ≠ .I ∧ f ≠ .D := by simpa using hf
    rw [State.flag_takeInterrupt, if_neg hD, if_neg hI]

/-- Settles O54: the entry of kind BRK or COP, its vector and its pushed byte read off for each mode. -/
theorem softwareInterruptsTakeTheirVector : Obligations.SoftwareInterruptsTakeTheirVector := by
  intro s sig kind i hi
  have hexec : exec i s = .next (s.takeInterrupt kind) := by
    obtain ⟨rfl, rfl⟩ | ⟨rfl, rfl⟩ := hi <;> rfl
  obtain ⟨u, vl, vh, hspec⟩ := s.takeInterrupt_spec kind
  refine ⟨s.takeInterrupt kind, u, vl, vh, hexec, ?_⟩
  obtain ⟨-, rfl⟩ | ⟨-, rfl⟩ := hi
  · cases hE : s.E <;> rw [hE] at hspec <;> exact hspec
  · cases hE : s.E <;> rw [hE] at hspec <;> exact hspec

/-- R387 for IRQ and NMI: in emulation mode bit 5 is set and bit 4, the B flag, is clear. -/
theorem pushedStatus_hardware {kind : InterruptKind} (h : kind ∈ [InterruptKind.irq, .nmi]) (p : Byte) :
    pushedStatus kind false p = p ∧ pushedStatus kind true p = (p ||| 0x20#8) &&& ~~~0x10#8 := by
  cases kind with
  | irq | nmi => exact ⟨rfl, rfl⟩
  | brk | cop => simp at h

theorem getLsbD_hardwareStatus (p : Byte) (k : Nat) :
    ((p ||| 0x20#8) &&& ~~~0x10#8).getLsbD k = if k = 5 then true else if k = 4 then false else p.getLsbD k := by
  by_cases hk : k < 8
  · interval_cases k <;> simp
  · have hge : 8 ≤ k := Nat.le_of_not_lt hk
    rw [BitVec.getLsbD_of_ge _ _ hge, BitVec.getLsbD_of_ge _ _ hge, if_neg (by omega), if_neg (by omega)]

/-- Settles O55: the entry of kind IRQ or NMI, likewise. -/
theorem hardwareInterruptsTakeTheirVector : Obligations.HardwareInterruptsTakeTheirVector := by
  intro s kind hkind
  obtain ⟨hnative, hemulation⟩ := pushedStatus_hardware hkind s.P
  obtain ⟨u, vl, vh, hspec⟩ := s.takeInterrupt_spec kind
  refine ⟨u, pushedStatus kind s.E s.P, vl, vh, fun hE => hE ▸ hnative, fun hE => ?_, ?_⟩
  · rw [hE, hemulation]
    exact ⟨getLsbD_hardwareStatus s.P 5, getLsbD_hardwareStatus s.P 4, fun k h5 h4 => by
      rw [getLsbD_hardwareStatus, if_neg h5, if_neg h4]⟩
  · simp only [List.mem_cons, List.not_mem_nil, or_false] at hkind
    obtain rfl | rfl := hkind
    · cases hE : s.E <;> rw [hE] at hspec <;> exact hspec
    · cases hE : s.E <;> rw [hE] at hspec <;> exact hspec

end Sys2Proof.Machine

/-! ### RTI after an entry -/

namespace Sys2Proof.Machine

/-- The frame of an entry, as a return finds it: status, `PC`, and in native mode `PBR`. -/
theorem State.pushFrame_stacked {s : State} (h : s.Inv) (hs : s.script = []) (kind : InterruptKind) :
    (s.pushFrame kind).Stacked
      (pushedStatus kind s.E s.P :: lo8 s.PC :: hi8 s.PC :: if s.E then [] else [s.PBR]) s.SP := by
  have hl : s.StackLegal := fun hE => (h.emulation hE).2.2
  have hnil := State.stacked_nil h.memory hs
  rw [State.pushFrame]
  split
  · exact (hnil.push16 hl (by simp) s.PC).push8 (s.push16_legal _) (by simp) _
  · exact ((hnil.push8 hl (by simp) s.PBR).push16 (s.push8_legal _) (by simp) s.PC).push8 (State.push16_legal _ _)
      (by simp) _

theorem State.takeInterrupt_stacked {s : State} (h : s.Inv) (hs : s.script = []) (kind : InterruptKind) :
    (s.takeInterrupt kind).Stacked
      (pushedStatus kind s.E s.P :: lo8 s.PC :: hi8 s.PC :: if s.E then [] else [s.PBR]) s.SP := by
  have hframe := State.pushFrame_stacked h hs kind
  rw [State.takeInterrupt_eq]
  refine hframe.congr rfl rfl rfl ?_
  change (s.pushFrame kind).script.tail.tail = []
  rw [hframe.flat]
  rfl

/-- The bits the entry of an interrupt forces in the pushed byte are those that M and X have in emulation mode. -/
theorem forceWidths_pushedStatus {s : State} (h : s.Inv) (kind : InterruptKind) :
    forceWidths s.E (pushedStatus kind s.E s.P) = s.P := by
  apply status_ext
  intro f
  rw [getFlag_forceWidths]
  cases hE : s.E with
  | false => simp [pushedStatus]
  | true =>
    obtain ⟨hM, hX, -⟩ := h.emulation hE
    have hM : getFlag s.P .M = true := hM
    have hX : getFlag s.P .X = true := hX
    have hbrk : getFlag (s.P ||| 0x30#8) f = (getFlag s.P f || (f == .M || f == .X)) := by
      rw [getFlag_or]
      cases f <;> rfl
    have hirq : getFlag ((s.P ||| 0x20#8) &&& ~~~0x10#8) f = ((getFlag s.P f || f == .M) && !(f == .X)) := by
      rw [getFlag_and_not, getFlag_or]
      cases f <;> rfl
    have hset : f = .M ∨ f = .X → getFlag s.P f = true := by
      rintro (rfl | rfl)
      exacts [hM, hX]
    cases kind with
    | brk | cop =>
      simp only [pushedStatus, hbrk]
      grind
    | irq | nmi =>
      simp only [pushedStatus, hirq]
      grind

/-- R36 item 2 makes clipping the index registers to the present width change nothing. -/
theorem State.Inv.clipIndex_eq {s : State} (h : s.Inv) : clipIndex s.P s.X = s.X ∧ clipIndex s.P s.Y = s.Y := by
  cases hX : s.flag .X with
  | false => exact ⟨clipIndex_of_clear s.P s.X hX, clipIndex_of_clear s.P s.Y hX⟩
  | true =>
    obtain ⟨hx, hy⟩ := h.index hX
    exact ⟨(if_pos hX).trans (and_mask8_of_hi8 s.X hx), (if_pos hX).trans (and_mask8_of_hi8 s.Y hy)⟩

/-- What an entry and the pulls of a return may leave changed. -/
def State.FramedFrom (s t : State) : Prop :=
  t = { s with P := t.P, PC := t.PC, PBR := t.PBR, SP := t.SP, mem := t.mem, script := t.script, trace := t.trace }

theorem State.takeInterrupt_framedFrom (s : State) (kind : InterruptKind) : s.FramedFrom (s.takeInterrupt kind) := by
  obtain ⟨hA, hX, hY, hD, hDBR, hE, hw, hs, hmv, hn, hi, -⟩ := s.takeInterrupt_fields kind
  rw [State.FramedFrom, ← hA, ← hX, ← hY, ← hD, ← hDBR, ← hE, ← hw, ← hs, ← hmv, ← hn, ← hi]

theorem State.FramedFrom.pull8 {s t : State} (h : s.FramedFrom t) : s.FramedFrom t.pull8.2 := by
  rw [State.FramedFrom] at h ⊢
  rw [h]
  rfl

theorem State.FramedFrom.pull16 {s t : State} (h : s.FramedFrom t) : s.FramedFrom t.pull16.2 := by
  rw [State.FramedFrom] at h ⊢
  rw [h]
  rfl

/-- Where nothing is left stacked, `SetP` of the pushed byte gives back what is left. -/
theorem State.FramedFrom.restored {s t : State} (h : s.FramedFrom t) (hs : s.script = []) (hi : s.Inv)
    (hstack : t.Stacked [] s.SP) (kind : InterruptKind) (bank : Byte) :
    ({ t.setP (pushedStatus kind s.E s.P) with PC := s.PC, PBR := bank } : State) =
      { s with PBR := bank, mem := t.mem, trace := t.trace } := by
  obtain ⟨hX, hY⟩ := hi.clipIndex_eq
  have hP := forceWidths_pushedStatus hi kind
  have hSP := hstack.SP_eq
  have hflat := hstack.flat
  rw [State.FramedFrom, hSP, hflat, ← hs] at h
  generalize t.mem = m at *
  generalize t.trace = tr at *
  generalize t.P = p at *
  generalize t.PC = pc at *
  generalize t.PBR = pbr at *
  subst h
  simp only [State.setP, hP, hX, hY]

/-- Settles O57: the return takes what the entry stacked, and `SetP` of the pushed byte gives `P` back. -/
theorem rtiRestoresTheInterruptedState : Obligations.RtiRestoresTheInterruptedState := by
  intro s kind hi hs
  refine ⟨_, rfl, ?_⟩
  have hframed := s.takeInterrupt_framedFrom kind
  have hE := (s.takeInterrupt_fields kind).2.2.2.2.2.1
  have hPBR := s.takeInterrupt_PBR kind
  obtain ⟨hp, hstack⟩ := (State.takeInterrupt_stacked hi hs kind).pull8
  obtain ⟨hPC, hstack⟩ := hstack.pull16
  rw [mkWord_hi8_lo8] at hPC
  generalize s.takeInterrupt kind = u at *
  have hpulled := hframed.pull8.pull16
  by_cases hmode : s.E = true
  · rw [if_pos hmode] at hstack
    rw [State.returnFromInterrupt_of_emulation (hE.trans hmode), hp, hPC, if_pos hmode, ← hPBR]
    exact hpulled.restored hs hi hstack kind u.PBR
  · rw [if_neg hmode] at hstack
    obtain ⟨hbank, hstack⟩ := hstack.pull8
    rw [State.returnFromInterrupt_of_native (hE.trans (Bool.eq_false_of_not_eq_true hmode)), hp, hPC, hbank,
      if_neg hmode]
    exact hpulled.pull8.restored hs hi hstack kind s.PBR

end Sys2Proof.Machine

/-! ## Block moves -/

namespace Sys2Proof.Machine

/-! ### The offsets -/

/-- The offset `k` bytes on from `r` in a direction, modulo `2^w` (R372). -/
def moveOffset (dir : Direction) (w : Width) (r : Word) (k : Nat) : Word :=
  BitVec.ofInt 16 (((r.toNat : Int) + (if dir = .up then (k : Int) else -(k : Int))) % 2 ^ w.bits)

theorem toNat_moveOffset (dir : Direction) (w : Width) (r : Word) (k : Nat) :
    ((moveOffset dir w r k).toNat : Int) = (r.toNat + (if dir = .up then (k : Int) else -(k : Int))) % 2 ^ w.bits := by
  rw [moveOffset, BitVec.toNat_ofInt]
  cases w <;> simp only [Width.bits] <;> omega

theorem toNat_stepOffset_up (v : Word) (w : Width) : (stepOffset .up v w).toNat = (v.toNat + 1) % 2 ^ w.bits :=
  toNat_incResult 0 v w

theorem toNat_stepOffset_down (v : Word) (w : Width) : (stepOffset .down v w).toNat = (v.toNat + 65535) % 2 ^ w.bits :=
  toNat_decResult_eq_add 0 v w

/-- R372 steps one byte on. -/
theorem stepOffset_eq_moveOffset (dir : Direction) (v : Word) (w : Width) : stepOffset dir v w = moveOffset dir w v 1 := by
  apply BitVec.eq_of_toNat_eq
  have h := toNat_moveOffset dir w v 1
  cases dir with
  | up =>
    rw [toNat_stepOffset_up]
    cases w <;> simp [Width.bits] at h ⊢ <;> omega
  | down =>
    rw [toNat_stepOffset_down]
    cases w <;> simp [Width.bits] at h ⊢ <;> omega

theorem moveOffset_zero (dir : Direction) {w : Width} {r : Word} (h : Fits r w) : moveOffset dir w r 0 = r := by
  apply BitVec.eq_of_toNat_eq
  have h0 := toNat_moveOffset dir w r 0
  have h : r.toNat < 2 ^ w.bits := h
  zify at h
  cases dir <;> simp [Int.emod_eq_of_lt, h] at h0 <;> omega

theorem moveOffset_moveOffset (dir : Direction) (w : Width) (r : Word) (j k : Nat) :
    moveOffset dir w (moveOffset dir w r j) k = moveOffset dir w r (j + k) := by
  rw [moveOffset, toNat_moveOffset, Int.emod_add_emod, moveOffset]
  cases dir with
  | up => simp [Int.add_assoc]
  | down =>
    simp
    ring_nf

/-! ### One byte -/

theorem State.blockStep_movesOneByte {s s' : State} {dir : Direction} {dst src : Byte}
    (h : s' = { s with PC := s'.PC, mv := .active dir dst src }) :
    let t := s'.blockStep dir dst src
    let v := s.answer (mkAddr src s.X)
    t = { s' with
        A := s.A - 1
        X := moveOffset dir s.wX s.X 1
        Y := moveOffset dir s.wX s.Y 1
        PC := if s.A - 1 = 0xFFFF then s'.PC + 3 else s'.PC
        DBR := if s.A - 1 = 0xFFFF then dst else s.DBR
        mv := if s.A - 1 = 0xFFFF then .idle else .active dir dst src
        mem := t.mem
        script := s.script.tail
        trace := .write (mkAddr dst s.Y) v :: .read (mkAddr src s.X) v :: s.trace } ∧
      HoldsValue ⟨mkAddr dst s.Y, .lin⟩ .w8 (v.zeroExtend 16) s t := by
  intro t v
  rw [← stepOffset_eq_moveOffset, ← stepOffset_eq_moveOffset]
  have ht : t = _ := s'.blockStep_eq dir dst src
  generalize t = t at *
  generalize s'.PC = pc at *
  subst h
  refine ⟨?_, HoldsValue.of_mem ?_⟩
  · subst ht
    rfl
  · subst ht
    simp only [State.writeOp, lo8_zeroExtend]
    rfl

theorem State.blockStep_first {s s' : State} {dir : Direction} {dst src : Byte} {o : Host.Outcome State Fault Refusal}
    (ho : o = exec (.mvn dst src) s ∧ dir = .up ∨ o = exec (.mvp dst src) s ∧ dir = .down) (hPC : s'.PC = s.PC - 3)
    (hs' : s' = { s with PC := s'.PC, mv := .active dir dst src }) : o = .next (s'.blockStep dir dst src) := by
  rw [hs', hPC]
  obtain ⟨rfl, rfl⟩ | ⟨rfl, rfl⟩ := ho
  · rfl
  · rfl

theorem step_of_active {s : State} {dir : Direction} {dst src : Byte} (hs : s.stopped = false) (hw : s.waiting = false)
    (hn : s.nmiPending = false) (hi : s.irqPending = false ∨ s.flag .I = true) (hmv : s.mv = .active dir dst src) :
    step s = .next (s.blockStep dir dst src) := by
  rw [step_of_service_none hs (State.wake_of_running hw) (State.service_of_masked hn hi), State.proceed_of_active hmv]

/-- Settles O58: the first byte is moved from the state that has the latch set and `PC` on the opcode again. -/
theorem blockMoveStepMovesOneByte : Obligations.BlockMoveStepMovesOneByte := by
  intro s dir dst src s' o h
  obtain ⟨ho, hs'⟩ : o = .next (s'.blockStep dir dst src) ∧ s' = { s with PC := s'.PC, mv := .active dir dst src } := by
    obtain ⟨ho, hPC, hs'⟩ | ⟨rfl, rfl, hs, hw, hn, hi, hmv⟩ := h
    · exact ⟨State.blockStep_first ho hPC hs', hs'⟩
    · exact ⟨step_of_active hs hw hn hi hmv, by rw [← hmv]⟩
  exact ⟨_, ho, State.blockStep_movesOneByte hs'⟩

end Sys2Proof.Machine

/-! ### A whole move -/

namespace Sys2Proof.Machine

/-- Two steps of a move that have one destination offset have one source offset. -/
theorem moveOffset_eq_of_eq {dir : Direction} {w : Width} {r : Word} {j k : Nat}
    (h : moveOffset dir w r j = moveOffset dir w r k) (q : Word) : moveOffset dir w q j = moveOffset dir w q k := by
  have hr := congrArg (fun v : Word => (v.toNat : Int)) h
  simp only [toNat_moveOffset] at hr
  suffices hq : ((moveOffset dir w q j).toNat : Int) = (moveOffset dir w q k).toNat from
    BitVec.eq_of_toNat_eq (Int.ofNat.inj hq)
  rw [toNat_moveOffset, toNat_moveOffset]
  generalize (if dir = .up then (j : Int) else -(j : Int)) = dj at *
  generalize (if dir = .up then (k : Int) else -(k : Int)) = dk at *
  exact (Int.ModEq.add_left_cancel' _ hr).add_left _

/-- Memory of `u` after `k` bytes moved from `s`: between different banks the source bank is as it was. -/
structure Copied (dir : Direction) (dst src : Byte) (s : State) (k : Nat) (u : State) : Prop where
  canonical : u.mem.wf = true
  source : dst ≠ src → ∀ o, u.ram (mkAddr src o) = s.ram (mkAddr src o)
  copy : dst ≠ src → ∀ j, j < k →
    u.ram (mkAddr dst (moveOffset dir s.wX s.Y j)) = s.ram (mkAddr src (moveOffset dir s.wX s.X j))

theorem Copied.next {dir : Direction} {dst src v : Byte} {s u t : State} {k : Nat} (h : Copied dir dst src s k u)
    (hv : v = u.ram (mkAddr src (moveOffset dir s.wX s.X k)))
    (ht : HoldsValue ⟨mkAddr dst (moveOffset dir s.wX s.Y k), .lin⟩ .w8 (v.zeroExtend 16) u t) :
    Copied dir dst src s (k + 1) t := by
  obtain ⟨hkeep, hstored⟩ := ht
  obtain ⟨hwf, hram, -⟩ := hstored h.canonical
  rw [lo8_zeroExtend] at hram
  have hother : ∀ b o, mkAddr b o ≠ mkAddr dst (moveOffset dir s.wX s.Y k) → t.ram (mkAddr b o) = u.ram (mkAddr b o) :=
    fun b o hne => hkeep _ (by simpa [EffAddr.span] using hne)
  refine ⟨hwf, fun hbank o => ?_, fun hbank j hj => ?_⟩
  · exact (hother src o fun heq => hbank (mkAddr_inj.mp heq).1.symm).trans (h.source hbank o)
  · by_cases hsame : moveOffset dir s.wX s.Y j = moveOffset dir s.wX s.Y k
    · rw [hsame, moveOffset_eq_of_eq hsame s.X, ← h.source hbank, ← hv]
      exact hram
    · have hlt : j < k := by
        rcases Nat.lt_succ_iff_lt_or_eq.mp hj with hlt | rfl
        · exact hlt
        · exact absurd rfl hsame
      exact (hother dst _ fun heq => hsame (mkAddr_inj.mp heq).2).trans (h.copy hbank j hlt)

/-- A move in progress: `k` bytes are moved since the fetch from `s`. -/
structure Moving (dir : Direction) (dst src : Byte) (s : State) (k : Nat) (u : State) : Prop where
  registers : u = { s with
    A := s.A - BitVec.ofNat 16 k
    X := moveOffset dir s.wX s.X k
    Y := moveOffset dir s.wX s.Y k
    mv := .active dir dst src
    mem := u.mem
    trace := u.trace }
  memory : Copied dir dst src s k u

/-- A move from `s` that is over. -/
structure Moved (dir : Direction) (dst src : Byte) (s : State) (t : State) : Prop where
  registers : t = { s with
    A := 0xFFFF
    X := moveOffset dir s.wX s.X (s.A.toNat + 1)
    Y := moveOffset dir s.wX s.Y (s.A.toNat + 1)
    PC := s.PC + 3
    DBR := dst
    mem := t.mem
    trace := t.trace }
  memory : Copied dir dst src s (s.A.toNat + 1) t

theorem Moving.step_eq {dir : Direction} {dst src : Byte} {s u : State} {k : Nat} (h : Moving dir dst src s k u)
    (hf : s.Fetches) : step u = .next (u.blockStep dir dst src) := by
  obtain ⟨hs, hw, hn, hi, -⟩ := hf
  have hu := h.registers
  refine step_of_active ?_ ?_ ?_ ?_ ?_ <;> rw [hu]
  exacts [hs, hw, hn, hi]

/-- What the next byte leaves, the last one or not. -/
theorem Moving.blockStep {dir : Direction} {dst src : Byte} {s u t : State} {k : Nat} (h : Moving dir dst src s k u)
    (hs : s.script = []) (ht : u.blockStep dir dst src = t) :
    t = { s with
        A := s.A - BitVec.ofNat 16 (k + 1)
        X := moveOffset dir s.wX s.X (k + 1)
        Y := moveOffset dir s.wX s.Y (k + 1)
        PC := if s.A - BitVec.ofNat 16 (k + 1) = 0xFFFF then s.PC + 3 else s.PC
        DBR := if s.A - BitVec.ofNat 16 (k + 1) = 0xFFFF then dst else s.DBR
        mv := if s.A - BitVec.ofNat 16 (k + 1) = 0xFFFF then .idle else .active dir dst src
        mem := t.mem
        trace := t.trace } ∧
      Copied dir dst src s (k + 1) t := by
  have hanswer : u.answer (mkAddr src u.X) = u.ram (mkAddr src (moveOffset dir s.wX s.X k)) := by
    rw [State.answer_ram _ _ (by rw [h.registers, hs])]
    exact congrArg (fun r : State => u.ram (mkAddr src r.X)) h.registers
  obtain ⟨hmove, hram⟩ := State.blockStep_movesOneByte (s := u) (s' := u) (dir := dir) (dst := dst) (src := src)
    (by rw [h.registers])
  rw [ht] at hmove hram
  refine ⟨hmove.trans ?_, h.memory.next hanswer ?_⟩
  · have hA : u.A - 1 = s.A - BitVec.ofNat 16 (k + 1) := by
      rw [h.registers, BitVec.ofNat_add, ← BitVec.sub_sub]
      rfl
    have hX : moveOffset dir u.wX u.X 1 = moveOffset dir s.wX s.X (k + 1) := by
      rw [h.registers, ← moveOffset_moveOffset]
      rfl
    have hY : moveOffset dir u.wX u.Y 1 = moveOffset dir s.wX s.Y (k + 1) := by
      rw [h.registers, ← moveOffset_moveOffset]
      rfl
    have hscript : u.script.tail = s.script := by
      rw [h.registers, hs]
      rfl
    have htrace : t.trace = .write (mkAddr dst u.Y) (u.answer (mkAddr src u.X)) ::
      .read (mkAddr src u.X) (u.answer (mkAddr src u.X)) :: u.trace := congrArg State.trace hmove
    rw [hA, hX, hY, hscript, ← htrace]
    generalize t.mem = m
    generalize t.trace = tr
    rw [h.registers]
  · convert hram using 4
    rw [h.registers]

/-- `A` has reached `$FFFF` after as many bytes as it counted and one more. -/
theorem count_eq_last (a : Word) {k : Nat} (h : k < a.toNat + 1) : a - BitVec.ofNat 16 (k + 1) = 0xFFFF ↔ k = a.toNat := by
  have := a.isLt
  have hlast : (0xFFFF : Word).toNat = 65535 := rfl
  rw [← BitVec.toNat_inj, BitVec.toNat_sub, BitVec.toNat_ofNat, hlast]
  omega

theorem Moving.next {dir : Direction} {dst src : Byte} {s u : State} {k : Nat} (h : Moving dir dst src s k u)
    (hs : s.script = []) (hk : k < s.A.toNat) : Moving dir dst src s (k + 1) (u.blockStep dir dst src) := by
  obtain ⟨hmove, hcopied⟩ := h.blockStep hs rfl
  have hlast : s.A - BitVec.ofNat 16 (k + 1) ≠ 0xFFFF := fun heq =>
    hk.ne ((count_eq_last s.A (by omega)).mp heq)
  rw [if_neg hlast, if_neg hlast, if_neg hlast] at hmove
  exact ⟨hmove, hcopied⟩

theorem Moving.last {dir : Direction} {dst src : Byte} {s u : State} (h : Moving dir dst src s s.A.toNat u)
    (hs : s.script = []) (hmv : s.mv = .idle) : Moved dir dst src s (u.blockStep dir dst src) := by
  obtain ⟨hmove, hcopied⟩ := h.blockStep hs rfl
  have hlast : s.A - BitVec.ofNat 16 (s.A.toNat + 1) = 0xFFFF := (count_eq_last s.A (by omega)).mpr rfl
  rw [if_pos hlast, if_pos hlast, if_pos hlast, hlast, ← hmv] at hmove
  exact ⟨hmove, hcopied⟩

theorem run_succ_of_step {s t : State} (h : step s = .next t) (k : Nat) :
    Host.Core.run core (k + 1) s = Host.Core.run core k t := by
  have h : core.step s = .next t := h
  simp only [Host.Core.run, h]

/-- The bytes left, and one more. -/
theorem Moving.run {dir : Direction} {dst src : Byte} {s : State} (hf : s.Fetches) (hs : s.script = []) (left : Nat) :
    ∀ (k : Nat) (u : State), Moving dir dst src s k u → k + left = s.A.toNat →
      ∃ t, Host.Core.run core (left + 1) u = .next t ∧ Moved dir dst src s t := by
  induction left with
  | zero =>
    intro k u h hk
    obtain rfl : k = s.A.toNat := hk
    exact ⟨_, run_succ_of_step (h.step_eq hf) 0, h.last hs hf.2.2.2.2⟩
  | succ left ih =>
    intro k u h hk
    rw [run_succ_of_step (h.step_eq hf)]
    exact ih (k + 1) _ (h.next hs (by omega)) (by omega)

theorem fits_index {s : State} {v : Word} (h : s.flag .X = true → hi8 v = 0) : Fits v s.wX := by
  cases hX : s.flag .X with
  | false =>
    rw [State.wX, hX]
    exact v.isLt
  | true =>
    have hhi := congrArg BitVec.toNat (h hX)
    rw [toNat_hi8] at hhi
    rw [State.wX, hX]
    change v.toNat < 256
    simp at hhi
    omega

/-- The state that the fetch of a block move sets up: the latch is set, and no byte is moved. -/
def State.latched (s : State) (dir : Direction) (dst src : Byte) (trace : List Access) : State :=
  { s with mv := .active dir dst src, trace := trace }

theorem State.latched_moving {s : State} (hm : s.mem.wf = true) (hidx : s.flag .X = true → hi8 s.X = 0 ∧ hi8 s.Y = 0)
    (dir : Direction) (dst src : Byte) (trace : List Access) :
    Moving dir dst src s 0 (s.latched dir dst src trace) := by
  refine ⟨?_, hm, fun _ _ => rfl, fun _ j hj => absurd hj j.not_lt_zero⟩
  rw [moveOffset_zero dir (fits_index fun hX => (hidx hX).1), moveOffset_zero dir (fits_index fun hX => (hidx hX).2)]
  simp [State.latched]

/-- The first step moves the first byte of the latched state. -/
theorem step_of_block_move {s : State} {dir : Direction} {dst src : Byte} {i : Instr} (hf : s.Fetches)
    (hs : s.script = []) (hi : i = .mvn dst src ∧ dir = .up ∨ i = .mvp dst src ∧ dir = .down)
    (hb : s.HoldsAt s.PC (encode i)) :
    ∃ trace, step s = .next ((s.latched dir dst src trace).blockStep dir dst src) := by
  refine ⟨fetchRecord s.PBR s.PC (encode i) s.trace, ?_⟩
  obtain ⟨rfl, rfl⟩ | ⟨rfl, rfl⟩ := hi
  · rw [stepRunsTheDecodedInstruction s _ hf hs rfl hb]
    refine State.blockStep_first (.inl ⟨rfl, rfl⟩) ?_ rfl
    exact (BitVec.add_sub_cancel s.PC 3).symm
  · rw [stepRunsTheDecodedInstruction s _ hf hs rfl hb]
    refine State.blockStep_first (.inr ⟨rfl, rfl⟩) ?_ rfl
    exact (BitVec.add_sub_cancel s.PC 3).symm

/-- Settles O59: the first step is the latched state's, and the whole move is the induction over the bytes left. -/
theorem blockMoveCopiesCountPlusOneBytes : Obligations.BlockMoveCopiesCountPlusOneBytes := by
  intro s dir dst src i hf hs hm hidx hi hb
  obtain ⟨trace, hfirst⟩ := step_of_block_move hf hs hi hb
  have hmoving := State.latched_moving hm hidx dir dst src trace
  obtain ⟨t, hrun, hmoved⟩ := Moving.run hf hs s.A.toNat 0 _ hmoving (Nat.zero_add _)
  rw [run_succ_of_step (hmoving.step_eq hf), ← run_succ_of_step hfirst] at hrun
  exact ⟨t, hrun, hmoved.registers, hmoved.memory.copy⟩

end Sys2Proof.Machine

/-! ## ADC and SBC -/

namespace Sys2Proof.Machine

/-! ### What both leave -/

/-- What R204 and R205 leave, given the operand as it is added, and the result with its carry. -/
structure Adds (src : Source) (added : Word) (r : Word × Bool) (s t : State) : Prop where
  frame : t = { s with
    A := t.A
    P := t.P
    script := (s.readSource src s.wM).2.script
    trace := (s.readSource src s.wM).2.trace }
  accumulator : AccumulatorIs r.1 s.wM s t
  nz : FlagsNZ r.1 s.wM t
  carry : t.flag .C = r.2
  overflow : t.flag .V = overflow (s.readA s.wM) added r.1 s.wM
  others : KeepsFlags [.N, .V, .Z, .C] s t

theorem State.accumulate_adds {s : State} {src : Source} {f : Byte → Word → Word → Width → Word × Byte} {added : Word}
    {r : Word × Bool} (hr : Fits r.1 s.wM)
    (hf : f s.P (s.readA s.wM) (s.readSource src s.wM).1 s.wM = (r.1, addFlags s.P (s.readA s.wM) added r s.wM)) :
    Adds src added r s (s.accumulate f src) := by
  rw [State.accumulate_eq, hf]
  have hflag := getFlag_addFlags s.P (s.readA s.wM) added r s.wM
  refine ⟨rfl, accumulatorIs_of_mergeA rfl hr, ⟨hflag .N, (hflag .Z).trans ?_⟩, hflag .C, hflag .V,
    addFlags_leavesFlags s.P (s.readA s.wM) added r s.wM⟩
  rw [if_pos rfl, mask_of_fits r.1 s.wM hr]

/-! ### Binary -/

theorem toNat_addBinary (a m : Word) (c : Bool) (w : Width) :
    (addBinary a m c w).1.toNat = (a.toNat + m.toNat + c.toNat) % 2 ^ w.bits := by
  rw [addBinary, BitVec.toNat_ofNat]
  cases w <;> simp only [Width.bits] <;> omega

theorem addBinary_fits (a m : Word) (c : Bool) (w : Width) : Fits (addBinary a m c w).1 w := by
  rw [Fits, toNat_addBinary]
  exact Nat.mod_lt _ (Nat.two_pow_pos _)

theorem adc_binary {s : State} (src : Source) (hD : s.flag .D = false) :
    Adds src (s.readSource src s.wM).1
      (addBinary (s.readA s.wM) (s.readSource src s.wM).1 (s.flag .C) s.wM) s (adc src s) := by
  have hD : getFlag s.P .D = false := hD
  refine State.accumulate_adds (addBinary_fits _ _ _ _) ?_
  rw [adcResult, hD]
  rfl

theorem sbc_binary {s : State} (src : Source) (hD : s.flag .D = false) :
    Adds src (complementAt (s.readSource src s.wM).1 s.wM)
      (addBinary (s.readA s.wM) (complementAt (s.readSource src s.wM).1 s.wM) (s.flag .C) s.wM) s (sbc src s) := by
  have hD : getFlag s.P .D = false := hD
  refine State.accumulate_adds (addBinary_fits _ _ _ _) ?_
  rw [sbcResult, hD]
  rfl

theorem decide_and_sign (v : Word) (w : Width) : decide (v &&& w.sign ≠ 0) = topBit v w := by
  have hsign : w.sign = BitVec.twoPow 16 (w.bits - 1) := by cases w <;> rfl
  have hne : BitVec.twoPow 16 (w.bits - 1) ≠ 0 := by cases w <;> decide
  rw [hsign, BitVec.and_twoPow, topBit]
  cases v.getLsbD (w.bits - 1) with
  | false => rfl
  | true => exact decide_eq_true hne

/-- R209 by the top bits: two operands of one sign, and a result of the other. -/
theorem overflow_eq (a m r : Word) (w : Width) :
    overflow a m r w = (topBit a w == topBit m w && topBit a w != topBit r w) := by
  rw [overflow, decide_and_sign]
  have hbits : w.bits - 1 < 16 := by cases w <;> decide
  simp only [topBit, BitVec.getLsbD_and, BitVec.getLsbD_xor, BitVec.getLsbD_not, hbits, decide_true, Bool.true_and]
  cases a.getLsbD (w.bits - 1) <;> cases m.getLsbD (w.bits - 1) <;> simp

/-- Settles O36: the carry and the sum are those of `AddBinary`, and the overflow formula is read by the top bits. -/
theorem adcBinaryAddsWithCarry : Obligations.AdcBinaryAddsWithCarry := by
  refine ⟨Laws.hasOpcodes_of _ _ (by decide), fun i s h => ?_⟩
  obtain ⟨src, hsrc, hexec⟩ : ReadsSource adc i := by simpa only [h] using exec_forms i
  refine ⟨src, hsrc, fun hD => ?_⟩
  have hadds := adc_binary src hD
  exact ⟨_, _, hexec s, hadds.frame, toNat_addBinary _ _ _ _, hadds.accumulator, hadds.nz, hadds.carry,
    hadds.overflow.trans (overflow_eq _ _ _ _), hadds.others⟩

theorem complementAt_fits (m : Word) (w : Width) : Fits (complementAt m w) w :=
  fits_mask _ w

theorem toNat_complementAt {m : Word} {w : Width} (h : Fits m w) : (complementAt m w).toNat = 2 ^ w.bits - 1 - m.toNat := by
  rw [complementAt, toNat_and_mask, BitVec.toNat_not]
  cases w <;> simp only [Fits, Width.bits] at h ⊢ <;> omega

/-- R205: adding the complement and the carry subtracts with a borrow. -/
theorem toNat_addBinary_complementAt (a : Word) {m : Word} (c : Bool) {w : Width} (h : Fits m w) :
    ((addBinary a (complementAt m w) c w).1.toNat : Int) = ((a.toNat : Int) - m.toNat - (1 - c.toNat)) % 2 ^ w.bits := by
  rw [toNat_addBinary, toNat_complementAt h]
  cases w <;> simp only [Fits, Width.bits] at h ⊢ <;> omega

theorem carry_addBinary_complementAt (a : Word) {m : Word} (c : Bool) {w : Width} (h : Fits m w) :
    (addBinary a (complementAt m w) c w).2 = decide ((0 : Int) ≤ a.toNat - m.toNat - (1 - c.toNat)) := by
  rw [addBinary, toNat_complementAt h, decide_eq_decide]
  cases w <;> simp only [Fits, Width.bits] at h ⊢ <;> omega

/-- R210: a value of a width, read as signed. -/
theorem signedAt_eq {v : Word} {w : Width} (h : Fits v w) :
    signedAt v w = if 2 ^ (w.bits - 1) ≤ v.toNat then (v.toNat : Int) - 2 ^ w.bits else v.toNat := by
  rw [signedAt, topBit_eq v w h]
  simp only [decide_eq_true_eq]

/-- R205 and R209: the overflow of the complement's addition is that of the signed difference. -/
theorem overflow_complementAt {a m : Word} (c : Bool) {w : Width} (ha : Fits a w) (hm : Fits m w) :
    overflow a (complementAt m w) (addBinary a (complementAt m w) c w).1 w =
      decide (signedAt a w - signedAt m w - (1 - c.toNat) < -2 ^ (w.bits - 1) ∨
        2 ^ (w.bits - 1) ≤ signedAt a w - signedAt m w - (1 - c.toNat)) := by
  have hc : c.toNat ≤ 1 := Bool.toNat_le c
  rw [overflow_eq, topBit_eq _ w ha, topBit_eq _ w (complementAt_fits m w), topBit_eq _ w (addBinary_fits _ _ _ _),
    toNat_addBinary, toNat_complementAt hm, signedAt_eq ha, signedAt_eq hm, Bool.eq_iff_iff]
  simp only [Bool.and_eq_true, beq_iff_eq, bne_iff_ne, ne_eq, decide_eq_decide, decide_eq_true_eq]
  cases w <;> simp only [Fits, Width.bits] at ha hm ⊢ <;> omega

/-- Settles O37: the complement's addition, read as a difference. -/
theorem sbcBinarySubtractsWithBorrow : Obligations.SbcBinarySubtractsWithBorrow := by
  refine ⟨Laws.hasOpcodes_of _ _ (by decide), fun i s h => ?_⟩
  obtain ⟨src, hsrc, hexec⟩ : ReadsSource sbc i := by simpa only [h] using exec_forms i
  refine ⟨src, hsrc, fun hD => ?_⟩
  have hadds := sbc_binary src hD
  have hm := s.readSource_fits src s.wM
  exact ⟨_, _, hexec s, hadds.frame, toNat_addBinary_complementAt _ _ hm, hadds.accumulator, hadds.nz,
    hadds.carry.trans (carry_addBinary_complementAt _ _ hm),
    hadds.overflow.trans (overflow_complementAt _ (s.readA_fits s.wM) hm), hadds.others⟩

end Sys2Proof.Machine

/-! ### Decimal -/

namespace Sys2Proof.Machine

/-- A digit operation that answers hexadecimal digits answers a number of as many. -/
theorem overDigits_lt {digit : Nat → Nat → Bool → Nat × Bool} (hdigit : ∀ a m c, (digit a m c).1 < 16) (n : Nat) :
    ∀ (a m : Nat) (c : Bool), (overDigits digit n a m c).1 < 16 ^ n := by
  induction n with
  | zero =>
    intro a m c
    exact Nat.one_pos
  | succ n ih =>
    intro a m c
    have hlow := hdigit (a % 16) (m % 16) c
    have hhigh := ih (a / 16) (m / 16) (digit (a % 16) (m % 16) c).2
    simp only [overDigits]
    omega

theorem addDigit_lt (a m : Nat) (c : Bool) : (addDigit a m c).1 < 16 :=
  Nat.mod_lt _ (by decide)

theorem subDigit_lt (a mc : Nat) (c : Bool) : (subDigit a mc c).1 < 16 := by
  simp only [subDigit]
  omega

theorem sixteen_pow_digits (w : Width) : 16 ^ (w.bits / 4) = 2 ^ w.bits := by
  cases w <;> rfl

/-- The digits' number, put into a word. -/
theorem toNat_ofNat_overDigits {digit : Nat → Nat → Bool → Nat × Bool} (hdigit : ∀ a m c, (digit a m c).1 < 16)
    (w : Width) (a m : Nat) (c : Bool) :
    (BitVec.ofNat 16 (overDigits digit (w.bits / 4) a m c).1).toNat = (overDigits digit (w.bits / 4) a m c).1 ∧
      Fits (BitVec.ofNat 16 (overDigits digit (w.bits / 4) a m c).1) w := by
  have hlt := overDigits_lt hdigit (w.bits / 4) a m c
  rw [sixteen_pow_digits] at hlt
  have hle : 2 ^ w.bits ≤ 2 ^ 16 := Nat.pow_le_pow_right (by decide) (by cases w <;> decide)
  have hnat := (BitVec.toNat_ofNat _ 16).trans (Nat.mod_eq_of_lt (hlt.trans_le hle))
  exact ⟨hnat, hnat.trans_lt hlt⟩

theorem bcdValue_lt {n : Nat} : ∀ {v : Nat}, validBcd n v → bcdValue n v < 10 ^ n := by
  induction n with
  | zero => exact fun _ => Nat.one_pos
  | succ n ih =>
    rintro v ⟨hdigit, hrest⟩
    have := ih hrest
    simp only [bcdValue]
    omega

/-- A decimal digit in front of valid ones. -/
theorem validBcd_digit {n d r : Nat} (hd : d ≤ 9) (hr : validBcd n r) :
    validBcd (n + 1) (d + 16 * r) ∧ bcdValue (n + 1) (d + 16 * r) = d + 10 * bcdValue n r := by
  have hlow : (d + 16 * r) % 16 = d := by omega
  have hhigh : (d + 16 * r) / 16 = r := by omega
  rw [validBcd, bcdValue, hlow, hhigh]
  exact ⟨⟨hd, hr⟩, rfl⟩

/-- R207, one digit: the carry is worth ten. -/
theorem addDigit_decimal {a m : Nat} (c : Bool) (ha : a ≤ 9) (hm : m ≤ 9) :
    (addDigit a m c).1 ≤ 9 ∧ (addDigit a m c).1 + 10 * (addDigit a m c).2.toNat = a + m + c.toNat := by
  have hc := Bool.toNat_le c
  obtain h | h := Nat.lt_or_ge 9 (a + m + c.toNat)
  · have hcarry : 15 < a + m + c.toNat + 6 := by omega
    simp only [addDigit, if_pos h, hcarry, decide_true, Bool.toNat_true]
    omega
  · have hcarry : ¬15 < a + m + c.toNat := by omega
    simp only [addDigit, if_neg h.not_gt, hcarry, decide_false, Bool.toNat_false]
    omega

/-- R208, one digit against the complement of a decimal digit: a missing carry is a borrow of ten. -/
theorem subDigit_decimal {a m : Nat} (c : Bool) (ha : a ≤ 9) (hm : m ≤ 9) :
    (subDigit a (15 - m) c).1 ≤ 9 ∧
      (subDigit a (15 - m) c).1 + m + 1 + 10 * (subDigit a (15 - m) c).2.toNat = a + c.toNat + 10 := by
  have hc := Bool.toNat_le c
  obtain h | h := le_or_gt ((a : Int) + (15 - m : Nat) + c.toNat) 15
  · have hcarry : ¬15 < (a : Int) + (15 - m : Nat) + c.toNat - 6 := by omega
    simp only [subDigit, if_pos h, hcarry, decide_false, Bool.toNat_false]
    omega
  · simp only [subDigit, if_neg h.not_ge, h, decide_true, Bool.toNat_true]
    omega

/-- R207: the carry out is worth `10^n`. -/
theorem overDigits_addDigit_decimal (n : Nat) : ∀ (a m : Nat) (c : Bool), validBcd n a → validBcd n m →
    validBcd n (overDigits addDigit n a m c).1 ∧
      bcdValue n (overDigits addDigit n a m c).1 + 10 ^ n * (overDigits addDigit n a m c).2.toNat =
        bcdValue n a + bcdValue n m + c.toNat := by
  induction n with
  | zero => exact fun a m c _ _ => ⟨trivial, by simp [overDigits, bcdValue]⟩
  | succ n ih =>
    rintro a m c ⟨ha, haRest⟩ ⟨hm, hmRest⟩
    obtain ⟨hd, hdSum⟩ := addDigit_decimal c ha hm
    obtain ⟨hr, hrSum⟩ := ih _ _ (addDigit (a % 16) (m % 16) c).2 haRest hmRest
    obtain ⟨hvalid, hvalue⟩ := validBcd_digit hd hr
    refine ⟨hvalid, ?_⟩
    simp only [overDigits, hvalue]
    simp only [bcdValue, Nat.pow_succ]
    linarith

/-- R208: a missing carry out is a borrow of `10^n`. -/
theorem overDigits_subDigit_decimal (n : Nat) : ∀ (a m : Nat) (c : Bool), validBcd n a → validBcd n m → m < 16 ^ n →
    validBcd n (overDigits subDigit n a (16 ^ n - 1 - m) c).1 ∧
      bcdValue n (overDigits subDigit n a (16 ^ n - 1 - m) c).1 + bcdValue n m + 1 +
          10 ^ n * (overDigits subDigit n a (16 ^ n - 1 - m) c).2.toNat =
        bcdValue n a + c.toNat + 10 ^ n := by
  induction n with
  | zero =>
    refine fun a m c _ _ _ => ⟨trivial, ?_⟩
    simp [overDigits, bcdValue]
    omega
  | succ n ih =>
    rintro a m c ⟨ha, haRest⟩ ⟨hm, hmRest⟩ hlt
    have hlow : (16 ^ (n + 1) - 1 - m) % 16 = 15 - m % 16 := by omega
    have hhigh : (16 ^ (n + 1) - 1 - m) / 16 = 16 ^ n - 1 - m / 16 := by omega
    obtain ⟨hd, hdSum⟩ := subDigit_decimal c ha hm
    obtain ⟨hr, hrSum⟩ := ih _ _ (subDigit (a % 16) (15 - m % 16) c).2 haRest hmRest (by omega)
    obtain ⟨hvalid, hvalue⟩ := validBcd_digit hd hr
    rw [overDigits, hlow, hhigh]
    refine ⟨hvalid, ?_⟩
    simp only [hvalue]
    simp only [bcdValue, Nat.pow_succ]
    linarith

/-- A carry worth `p` is set exactly when the number reaches `p`. -/
theorem eq_mod_of_carry {v p t : Nat} {c : Bool} (hv : v < p) (h : v + p * c.toNat = t) :
    v = t % p ∧ c = decide (p ≤ t) := by
  cases c with
  | false =>
    obtain rfl : v = t := h
    exact ⟨(Nat.mod_eq_of_lt hv).symm, (decide_eq_false hv.not_ge).symm⟩
  | true =>
    obtain rfl : v + p = t := by simpa using h
    exact ⟨by rw [Nat.add_mod_right, Nat.mod_eq_of_lt hv], (decide_eq_true (Nat.le_add_left p v)).symm⟩

/-- A carry that is missing where `p` is borrowed is set exactly when the number is not negative. -/
theorem eq_emod_of_borrow {v p : Nat} {d : Int} {c : Bool} (hv : v < p) (h : (v : Int) + p * c.toNat = d + p) :
    (v : Int) = d % p ∧ c = decide (0 ≤ d) := by
  have hmod : ((v : Int) + p * c.toNat) % p = v := by
    rw [Int.add_mul_emod_self_left, Int.emod_eq_of_lt (by omega) (by omega)]
  rw [h, Int.add_emod_right] at hmod
  refine ⟨hmod.symm, ?_⟩
  cases c with
  | false =>
    simp at h
    exact (decide_eq_false (by omega)).symm
  | true =>
    simp at h
    exact (decide_eq_true (by omega)).symm

/-- R207 on valid operands. -/
theorem addDecimal_decimal {a m : Word} (c : Bool) {w : Width} (ha : validBcd (w.bits / 4) a.toNat)
    (hm : validBcd (w.bits / 4) m.toNat) :
    let r := addDecimal a m c w
    let sum := bcdValue (w.bits / 4) a.toNat + bcdValue (w.bits / 4) m.toNat + c.toNat
    validBcd (w.bits / 4) r.1.toNat ∧ bcdValue (w.bits / 4) r.1.toNat = sum % 10 ^ (w.bits / 4) ∧
      r.2 = decide (10 ^ (w.bits / 4) ≤ sum) := by
  obtain ⟨hvalid, hsum⟩ := overDigits_addDigit_decimal (w.bits / 4) a.toNat m.toNat c ha hm
  simp only [addDecimal, (toNat_ofNat_overDigits addDigit_lt w a.toNat m.toNat c).1]
  exact ⟨hvalid, eq_mod_of_carry (bcdValue_lt hvalid) hsum⟩

/-- R208 on valid operands. -/
theorem subDecimal_decimal {a m : Word} (c : Bool) {w : Width} (ha : validBcd (w.bits / 4) a.toNat)
    (hm : validBcd (w.bits / 4) m.toNat) (hfits : Fits m w) :
    let r := subDecimal a (complementAt m w) c w
    let diff : Int := bcdValue (w.bits / 4) a.toNat - bcdValue (w.bits / 4) m.toNat - (1 - c.toNat)
    validBcd (w.bits / 4) r.1.toNat ∧ (bcdValue (w.bits / 4) r.1.toNat : Int) = diff % 10 ^ (w.bits / 4) ∧
      r.2 = decide (0 ≤ diff) := by
  have hlt : m.toNat < 16 ^ (w.bits / 4) := by
    rw [sixteen_pow_digits]
    exact hfits
  have hdigits := overDigits_subDigit_decimal (w.bits / 4) a.toNat m.toNat c ha hm hlt
  rw [sixteen_pow_digits, ← toNat_complementAt hfits] at hdigits
  obtain ⟨hvalid, hdiff⟩ := hdigits
  simp only [subDecimal, (toNat_ofNat_overDigits subDigit_lt w a.toNat (complementAt m w).toNat c).1]
  generalize overDigits subDigit (w.bits / 4) a.toNat (complementAt m w).toNat c = r at hvalid hdiff ⊢
  have hborrow : (bcdValue (w.bits / 4) r.1 : Int) + (10 ^ (w.bits / 4) : Nat) * r.2.toNat =
      bcdValue (w.bits / 4) a.toNat - bcdValue (w.bits / 4) m.toNat - (1 - c.toNat) + (10 ^ (w.bits / 4) : Nat) := by
    zify at hdiff ⊢
    linarith
  exact ⟨hvalid, eq_emod_of_borrow (bcdValue_lt hvalid) hborrow⟩

theorem adc_decimal {s : State} (src : Source) (hD : s.flag .D = true) :
    Adds src (s.readSource src s.wM).1
      (addDecimal (s.readA s.wM) (s.readSource src s.wM).1 (s.flag .C) s.wM) s (adc src s) := by
  have hD : getFlag s.P .D = true := hD
  refine State.accumulate_adds (toNat_ofNat_overDigits addDigit_lt s.wM _ _ _).2 ?_
  rw [adcResult, hD]
  rfl

theorem sbc_decimal {s : State} (src : Source) (hD : s.flag .D = true) :
    Adds src (complementAt (s.readSource src s.wM).1 s.wM)
      (subDecimal (s.readA s.wM) (complementAt (s.readSource src s.wM).1 s.wM) (s.flag .C) s.wM) s (sbc src s) := by
  have hD : getFlag s.P .D = true := hD
  refine State.accumulate_adds (toNat_ofNat_overDigits subDigit_lt s.wM _ _ _).2 ?_
  rw [sbcResult, hD]
  rfl

/-- Settles O38: on valid operands each carry between digits is worth ten, so that the carry out is worth `10^n`. -/
theorem decimalAddAndSubtract : Obligations.DecimalAddAndSubtract := by
  intro i s hi
  simp only [List.mem_cons, List.not_mem_nil, or_false] at hi
  obtain h | h := hi
  · obtain ⟨src, hsrc, hexec⟩ : ReadsSource adc i := by simpa only [h] using exec_forms i
    refine ⟨src, hsrc, fun hD => ?_⟩
    have hadds := adc_decimal src hD
    refine ⟨_, _, hexec s, hadds.frame, hadds.accumulator, hadds.nz, hadds.others, fun _ => hadds.overflow,
      by simp [h], fun ha hm => ?_⟩
    obtain ⟨hvalid, hsum, hcarry⟩ := addDecimal_decimal (s.flag .C) ha hm
    exact ⟨hvalid, fun _ => ⟨hsum, hadds.carry.trans hcarry⟩, by simp [h]⟩
  · obtain ⟨src, hsrc, hexec⟩ : ReadsSource sbc i := by simpa only [h] using exec_forms i
    refine ⟨src, hsrc, fun hD => ?_⟩
    have hadds := sbc_decimal src hD
    refine ⟨_, _, hexec s, hadds.frame, hadds.accumulator, hadds.nz, hadds.others, by simp [h], fun _ => hadds.overflow,
      fun ha hm => ?_⟩
    obtain ⟨hvalid, hdiff, hcarry⟩ := subDecimal_decimal (s.flag .C) ha hm (s.readSource_fits src s.wM)
    exact ⟨hvalid, by simp [h], fun _ => ⟨hdiff, hadds.carry.trans hcarry⟩⟩

end Sys2Proof.Machine
